-- ==== Sys2Proof/Word.lean ====
section
/-! DEFINITION. Word.lean: the widths of spec/00_scope.md R8, R9, R14 and the two one-bit names the interface uses. -/

namespace Sys2Proof

/-- A 36-bit command word WORD (R90, R101); bit 0 is the least significant bit (R13). -/
abbrev CommandWord := BitVec 36

/-- TickCount: "unsigned 16-bit, monotonically increasing modulo 2^16" (R8). -/
abbrev TickCount := BitVec 16

/-- PinSample: bit 0 is the level of channel A, bit 1 the level of channel B (R8, R141). -/
abbrev PinSample := BitVec 2

/-- A step value or another 16-bit RESULT; a step value is read as s16 two's complement (R97). -/
abbrev Result := BitVec 16

/-- stepGranularity (R9, R34): one event per four-edge detent, or one per two-edge half-cycle. -/
inductive Granularity where
  | full
  | half
deriving DecidableEq, Repr

/-- The requester context a command comes from: POLL (CTX = 0) or ISR (CTX = 1); Decode.lean has the bit (R90, R102). -/
inductive Ctx where
  | poll
  | isr
deriving DecidableEq, Repr

end Sys2Proof
end

