-- ==== Sys2Proof/Config.lean ====
section
/-! DEFINITION. Config.lean: the parameters R10 leaves open, fixed at build time and no state (log entry 7). -/

namespace Sys2Proof

/-- A parameter set of R10 (TICK_HZ apart, which no rule reads). -/
structure Params where
  refPpr : Nat
  bSlow : Nat
  bMedium : Nat
  bFast : Nat
  bVfast : Nat
deriving DecidableEq, Repr

/-- The bounds of R10 and the order of R12, which a model checks at build time. -/
abbrev Params.Admissible (p : Params) : Prop :=
  (1 ≤ p.refPpr ∧ p.refPpr ≤ 65535) ∧
  (3000 ≤ p.bSlow ∧ p.bSlow < 9000) ∧
  (1500 ≤ p.bMedium ∧ p.bMedium < 3000) ∧
  (500 ≤ p.bFast ∧ p.bFast < 1500) ∧
  p.bVfast < p.bFast

namespace Config

/-- DESIGN CHOICE (log entry 7), safe: nothing is known of these five numbers; `params` brings each into the bounds of R10. -/
opaque freeRefPpr : Nat
opaque freeSlow : Nat
opaque freeMedium : Nat
opaque freeFast : Nat
opaque freeVfast : Nat

/-- TICK_HZ (R10): any value; no rule reads it (R262). -/
opaque tickHz : Nat

/-- The machine's parameter set. Every admissible set is a value of this expression and no other set is,
so a theorem about `params` holds for exactly the sets R10 and R12 admit. -/
def params : Params where
  refPpr := 1 + freeRefPpr % 65535
  bSlow := 3000 + freeSlow % 6000
  bMedium := 1500 + freeMedium % 1500
  bFast := 500 + freeFast % 1000
  bVfast := freeVfast % (500 + freeFast % 1000)

end Config
end Sys2Proof
end

