-- ==== Sys2Proof/Syntax.lean ====
section
/-! DEFINITION. Syntax.lean: the four commands of spec/opcode_table.json (R91, R92). -/

namespace Sys2Proof

/-- A command with its operands, each an unsigned field taken as it stands (R98). -/
inductive Instr where
  /-- CONFIGURE, CFG format (R93, R220). -/
  | configure (gran : Granularity) (ppr : BitVec 16)
  /-- SAMPLE, SMP format (R94, R190). -/
  | sample (pins : PinSample) (tick : TickCount)
  /-- ELAPSED, ELP format (R95, R120). -/
  | elapsed (prev : TickCount) (cur : TickCount)
  /-- READ_STEP, RD format (R96, R225). -/
  | readStep
deriving DecidableEq, Repr

end Sys2Proof
end

