-- ==== Sys2Proof/Decode.lean ====
section
/-! DEFINITION. Decode.lean: from a 36-bit word to an instruction or a named rejection (R91 to R99), and back (R92); the CTX bit beside
it (R102). -/

namespace Sys2Proof

/-- Why a word spells no command (R99); both reasons fail with IllegalCommand (R254). -/
inductive Reject where
  /-- OP is 0x0 or in 0x5..0xF. -/
  | reservedOpcode
  /-- A reserved bit of the word's format is 1. -/
  | reservedBits
deriving DecidableEq, Repr

/-- GRAN: 0 = Full, 1 = Half (R34, R93). -/
def Granularity.ofBit (b : BitVec 1) : Granularity :=
  if b = 0#1 then .full else .half

/-- The GRAN bit of a granularity (R34). -/
def Granularity.bit : Granularity → BitVec 1
  | .full => 0#1
  | .half => 1#1

/-- CTX: 1 = ISR, the interrupt-context call path; 0 = POLL, the polling context (R90, R102). -/
def Ctx.ofBit (b : BitVec 1) : Ctx :=
  if b = 1#1 then .isr else .poll

/-- The CTX bit of a context (R90, R102). -/
def Ctx.bit : Ctx → BitVec 1
  | .poll => 0#1
  | .isr => 1#1

/-- The opcode field OP = WORD[35:32] (R91). -/
def opcodeOf (w : CommandWord) : BitVec 4 := w.extractLsb 35 32

/-- CFG (R93): WORD[31:17] reserved, GRAN = WORD[16], PPR = WORD[15:0]. -/
def decodeCfg (w : CommandWord) : Except Reject Instr :=
  if w.extractLsb 31 17 = 0#15 then
    .ok (.configure (Granularity.ofBit (w.extractLsb 16 16)) (w.extractLsb 15 0))
  else .error .reservedBits

/-- SMP (R94): WORD[31:18] reserved, PINS = WORD[17:16], TICK = WORD[15:0]. -/
def decodeSmp (w : CommandWord) : Except Reject Instr :=
  if w.extractLsb 31 18 = 0#14 then .ok (.sample (w.extractLsb 17 16) (w.extractLsb 15 0))
  else .error .reservedBits

/-- ELP (R95): PREV = WORD[31:16], CUR = WORD[15:0], no reserved bit. -/
def decodeElp (w : CommandWord) : Except Reject Instr :=
  .ok (.elapsed (w.extractLsb 31 16) (w.extractLsb 15 0))

/-- RD (R96): WORD[31:0] reserved. -/
def decodeRd (w : CommandWord) : Except Reject Instr :=
  if w.extractLsb 31 0 = 0#32 then .ok .readStep else .error .reservedBits

/-- The decoder, total over all 2^36 words (R100). -/
def decode (w : CommandWord) : Except Reject Instr :=
  match (opcodeOf w).toNat with
  | 1 => decodeCfg w
  | 2 => decodeSmp w
  | 3 => decodeElp w
  | 4 => decodeRd w
  | _ => .error .reservedOpcode

/-- The word of an instruction, written from the patterns of R92 with bit 35 first. -/
def encode : Instr → CommandWord
  | .configure gran ppr => 0b0001#4 ++ 0#15 ++ gran.bit ++ ppr
  | .sample pins tick => 0b0010#4 ++ 0#14 ++ pins ++ tick
  | .elapsed prev cur => 0b0011#4 ++ prev ++ cur
  | .readStep => 0b0100#4 ++ 0#32

/-- A row of spec/opcode_table.json. -/
structure OpcodeRow where
  mnemonic : String
  mask : CommandWord
  pattern : CommandWord
deriving DecidableEq, Repr

/-- The row of each command: its mask and match (R100). -/
def Instr.row : Instr → OpcodeRow
  | .configure _ _ => ⟨"CONFIGURE", 0xFFFFE0000#36, 0x100000000#36⟩
  | .sample _ _ => ⟨"SAMPLE", 0xFFFFC0000#36, 0x200000000#36⟩
  | .elapsed _ _ => ⟨"ELAPSED", 0xF00000000#36, 0x300000000#36⟩
  | .readStep => ⟨"READ_STEP", 0xFFFFFFFFF#36, 0x400000000#36⟩

/-- The command word that `nbits` bits `w` spell, numbered as the opcode table numbers them: bit 0 the least significant.
The table's 36-bit rows come in whole bytes; a value with a bit above bit 35 spells no command, and the illegal word 0 stands for
it (DESIGN CHOICE, log entry 11, safe). -/
def tableWord (nbits w : Nat) : CommandWord :=
  if w % 2 ^ nbits < 2 ^ 36 then BitVec.ofNat 36 (w % 2 ^ nbits) else 0#36

/-- The instruction the decoder reads from a row's word; none where it rejects it. -/
def decodeTableWord (nbits w : Nat) : Option Instr :=
  match decode (tableWord nbits w) with
  | .ok i => some i
  | .error _ => none

end Sys2Proof
end

