-- ==== Sys2Proof/Machine/State.lean ====
section
/-! DEFINITION. Machine/State.lean: the block's registers (R32), its command interface (R90), and why a step can stop.
The block has no addressable memory and no program counter (R30, R49), so neither is here. -/

namespace Sys2Proof.Machine

/-- What the outside world does to the block next: a requester's command, or the reset event of R290. -/
inductive Input where
  /-- The pair (CTX, WORD) of R90 as it stands at the interface: CTX is 1 bit, 0 = POLL and 1 = ISR (R102), and WORD is 36 bits. -/
  | command (ctx : BitVec 1) (word : CommandWord)
  /-- Power-on or the external reset input (R290). -/
  | reset
deriving DecidableEq, Repr

/-- The response to a command: STATUS[2:0] and RESULT[15:0] (R90, R97). -/
structure Response where
  status : BitVec 3
  result : Result
deriving DecidableEq, Repr

/-- The registers of R32, in its order, then the model's view of the interface (log entries 1 to 3). -/
structure State where
  /-- CONFIGURED (R33): a successful CONFIGURE has occurred since reset. -/
  configured : Bool
  /-- GRAN (R34). -/
  gran : Granularity
  /-- PPR (R35): the configured pulsesPerRevolution; no rule reads it after CONFIGURE. -/
  ppr : BitVec 16
  /-- CEIL_SLOW (R40). -/
  ceilSlow : BitVec 32
  /-- CEIL_MEDIUM (R40). -/
  ceilMedium : BitVec 32
  /-- CEIL_FAST (R40). -/
  ceilFast : BitVec 32
  /-- CEIL_VFAST (R40): kept and never read (R189). -/
  ceilVfast : BitVec 32
  /-- DSTATE (R36, R37): the decoder's state code. -/
  dstate : BitVec 4
  /-- LAST_TICK (R38): the tick of the most recent completed detent. -/
  lastTick : TickCount
  /-- FIRST (R39): no detent has completed since construction. -/
  first : Bool
  /-- STEP_OUT (R41): the published step value. -/
  stepOut : Result
  /-- FAULT_LOG (R42): bit k is set once a command has failed with code k+1. -/
  faultLog : BitVec 4
  /-- The context CTX gave for the command taken last (R47, R102). The model's own field (log entry 2). -/
  ctx : Ctx
  /-- The response given last; none when none was given since reset. The model's own field (log entry 3). -/
  response : Option Response
  /-- The inputs still to come, in the total order of R73. The model's own field (log entry 1). -/
  pending : List Input
  /-- The position in its program of the next command (R31). The model's own field (log entry 1). -/
  index : Nat
deriving DecidableEq, Repr

/-- The state after reset (R290), with no program loaded (log entry 6). The last four values are the model's (log entries 1 to 3). -/
def State.reset : State where
  configured := false
  gran := .full
  ppr := 0#16
  ceilSlow := 0#32
  ceilMedium := 0#32
  ceilFast := 0#32
  ceilVfast := 0#32
  dstate := 0#4
  lastTick := 0#16
  first := true
  stepOut := 0#16
  faultLog := 0#4
  ctx := .poll
  response := none
  pending := []
  index := 0

/-- Why a step can stop with a fault. The four errors of R250 are no faults of the model: the block answers them and goes on (R255). -/
inductive Fault where
  /-- Raised by SAMPLE if the table entry it reads holds the direction code 11. R105 says no entry holds it, and
  spec/93_implementation_defined.md I10 asks a model to treat one as a fault. Safe (log entry 10). -/
  | reservedDirection
deriving DecidableEq, Repr

/-- Why a step can be refused. -/
inductive Refusal where
  /-- An instruction that has no meaning yet; raised by exec's arm alone. Safe. No arm of this model raises it. -/
  | notModelled (mnemonic : String)
deriving DecidableEq, Repr

end Sys2Proof.Machine
end

