-- ==== Sys2Proof/Machine/Flags.lean ====
section
/-! DEFINITION. Machine/Flags.lean: the block has no condition flags (R43). What a command reports is its status code (R250), and
what it leaves behind when it fails is a bit of the sticky FAULT_LOG (R42). -/

namespace Sys2Proof.Machine

/-- The four errors of R250. -/
inductive Error where
  | invalidConfiguration
  | notConfigured
  | contextViolation
  | illegalCommand
deriving DecidableEq, Repr

/-- The STATUS code of a successful command (R97, R250). -/
def okCode : BitVec 3 := 0#3

/-- The STATUS code of an error (R250). -/
def Error.code : Error → BitVec 3
  | .invalidConfiguration => 1#3
  | .notConfigured => 2#3
  | .contextViolation => 3#3
  | .illegalCommand => 4#3

/-- FAULT_LOG with the bit of an error set: bit k for the error whose code is k+1 (R42). -/
def logError (log : BitVec 4) (e : Error) : BitVec 4 :=
  log ||| (1#4 <<< (e.code.toNat - 1))

end Sys2Proof.Machine
end

