-- ==== Sys2Proof/Machine/Operands.lean ====
section
/-! DEFINITION. Machine/Operands.lean: the operand forms of R98 (every operand is an unsigned field) and the widenings of R14. -/

namespace Sys2Proof.Machine

/-- PINS[0]: the level of channel A (R94). -/
def channelA (pins : PinSample) : Bool := pins.getLsbD 0

/-- PINS[1]: the level of channel B (R94). -/
def channelB (pins : PinSample) : Bool := pins.getLsbD 1

/-- The sample value 2·B + A (R141). -/
def pinSample (b a : Bool) : PinSample := BitVec.ofBool b ++ BitVec.ofBool a

/-- zext_32 of a 16-bit interval (R14, R185). -/
def zext32 (v : BitVec 16) : BitVec 32 := v.zeroExtend 32

end Sys2Proof.Machine
end

