-- ==== Sys2Proof/Machine/Ops.lean ====
section
/-! DEFINITION. Machine/Ops.lean: the operations the meanings share: taking an input, answering, failing, resetting. -/

namespace Sys2Proof.Machine

/-- Answer a command that succeeds (R90, R97). -/
def State.answer (result : Result) (s : State) : State :=
  { s with response := some ⟨okCode, result⟩ }

/-- Fail with an error: what this block has in place of taking an exception. Nothing is saved, no mode changes and control goes
nowhere (R260); FAULT_LOG gets the error's bit and the response is (code, 0) (R255). Nothing returns from it (R261). -/
def State.raise (e : Error) (s : State) : State :=
  { s with faultLog := logError s.faultLog e, response := some ⟨e.code, 0#16⟩ }

/-- A word that spells no command fails with IllegalCommand, whatever the reason (R99, R254). -/
def execIllegal (_why : Reject) (s : State) : Host.Outcome State Fault Refusal :=
  .next (s.raise .illegalCommand)

/-- Which context may issue which command (R258). -/
def permits : Instr → Ctx → Bool
  | .configure _ _, .poll => true
  | .configure _ _, .isr => false
  | .sample _ _, .poll => false
  | .sample _ _, .isr => true
  | .elapsed _ _, _ => true
  | .readStep, _ => true

/-- The block takes the next command of its program: the context becomes the one its CTX input gives and the position advances by 1,
whether the command will succeed or fail (R31, R73, R90). -/
def State.take (c : Ctx) (rest : List Input) (s : State) : State :=
  { s with ctx := c, pending := rest, index := s.index + 1 }

/-- The reset event of R290: every register takes its reset value. The program and the position in it are the environment's and
are kept; the response is withdrawn (DESIGN CHOICE, log entry 5). -/
def State.resetEvent (rest : List Input) (s : State) : State :=
  { State.reset with pending := rest, index := s.index }

/-- What the block finds at its interface. -/
inductive Fetched where
  /-- No input: the block waits. -/
  | idle
  /-- A reset event, and the state it leaves. -/
  | reset (s : State)
  /-- A command word, and the state with the command taken. -/
  | command (word : CommandWord) (s : State)

/-- Take the next input, in the order of R73; a command's CTX bit is read here, once (R102). -/
def fetch (s : State) : Fetched :=
  match s.pending with
  | [] => .idle
  | .reset :: rest => .reset (s.resetEvent rest)
  | .command ctx w :: rest => .command w (s.take (Ctx.ofBit ctx) rest)

/-- With no command the block waits: it acts only when given one (R266, R290; log entry 4). -/
def waitForCommand (s : State) : Host.Outcome State Fault Refusal := .next s

/-- A context R258 allows the command a word spells; POLL where both are allowed and for an illegal word (log entry 6). -/
def requesterOf (w : CommandWord) : Ctx :=
  match decode w with
  | .ok i => if permits i .poll then .poll else .isr
  | .error _ => .poll

/-- Put a word where the next command is taken from, issued by a context that may issue it (log entry 6). -/
def State.placeWord (w : CommandWord) (s : State) : State :=
  { s with pending := .command (requesterOf w).bit w :: s.pending.tail }

end Sys2Proof.Machine
end

