-- ==== Sys2Proof/Machine/Configuration.lean ====
section
/-! DEFINITION. Machine/Configuration.lean: construction, the CONFIGURE command (spec/43_configuration_and_handoff.md section 1). -/

namespace Sys2Proof.Machine

/-- floor(base × REF_PPR / PPR): the product in nat, then one division, stored in 32 bits, unclamped (R193, R223). -/
def scaledCeiling (p : Params) (base : Nat) (ppr : BitVec 16) : BitVec 32 :=
  BitVec.ofNat 32 (base * p.refPpr / ppr.toNat)

/-- What a successful CONFIGURE writes: every register except FAULT_LOG (R220, R222). -/
def State.construct (p : Params) (gran : Granularity) (ppr : BitVec 16) (s : State) : State :=
  { s with
    configured := true
    gran := gran
    ppr := ppr
    ceilSlow := scaledCeiling p p.bSlow ppr
    ceilMedium := scaledCeiling p p.bMedium ppr
    ceilFast := scaledCeiling p p.bFast ppr
    ceilVfast := scaledCeiling p p.bVfast ppr
    dstate := 0#4
    lastTick := 0#16
    first := true
    stepOut := 0#16 }

/-- CONFIGURE under a parameter set (R220). Its reserved bits are checked by the decoder, before this meaning (R257). -/
def configureWith (p : Params) (gran : Granularity) (ppr : BitVec 16) (s : State) : Host.Outcome State Fault Refusal :=
  if permits (.configure gran ppr) s.ctx = false then .next (s.raise .contextViolation)
  else if ppr = 0#16 then .next (s.raise .invalidConfiguration)
  else .next ((s.construct p gran ppr).answer 0#16)

/-- CONFIGURE of this machine (R220): its parameters are Config.params (log entry 7). -/
def execConfigure (gran : Granularity) (ppr : BitVec 16) (s : State) : Host.Outcome State Fault Refusal :=
  configureWith Config.params gran ppr s

end Sys2Proof.Machine
end

