-- ==== Sys2Proof/Machine/Handoff.lean ====
section
/-! DEFINITION. Machine/Handoff.lean: the result hand-off, the READ_STEP command (spec/43_configuration_and_handoff.md section 2). -/

namespace Sys2Proof.Machine

/-- READ_STEP (R225): answers STEP_OUT itself (R79), all 16 bits at once (R72), and consumes nothing (R78); either context. -/
def execReadStep (s : State) : Host.Outcome State Fault Refusal :=
  .next (s.answer s.stepOut)

end Sys2Proof.Machine
end

