-- ==== Sys2Proof/Machine/Interval.lean ====
section
/-! DEFINITION. Machine/Interval.lean: WrapSafeInterval and the ELAPSED command (spec/40_wrap_safe_interval.md). -/

namespace Sys2Proof.Machine

/-- `elapsed(previous, current)` is current -_16 previous, subtraction modulo 2^16; total (R121, R122). -/
def elapsed (previous current : TickCount) : TickCount := current - previous

/-- ELAPSED (R120): reads and writes no register, in either context. -/
def execElapsed (prev cur : TickCount) (s : State) : Host.Outcome State Fault Refusal :=
  .next (s.answer (elapsed prev cur))

end Sys2Proof.Machine
end

