-- ==== Sys2Proof/Machine/Decoder.lean ====
section
/-! DEFINITION. Machine/Decoder.lean: QuadratureDecoder, the transition-table state machine (spec/41_quadrature_decoder.md). -/

namespace Sys2Proof.Machine

/-! The DSTATE codes of R36. -/
def START : BitVec 4 := 0#4
def CW1 : BitVec 4 := 1#4
def CW2 : BitVec 4 := 2#4
def CW3 : BitVec 4 := 3#4
def CWR : BitVec 4 := 4#4
def CCW1 : BitVec 4 := 5#4
def CCW2 : BitVec 4 := 6#4
def CCW3 : BitVec 4 := 7#4
def CCWR : BitVec 4 := 8#4
def RESYNC : BitVec 4 := 9#4

/-- The pin sample a state stands for (R36); RESYNC and the unused codes stand for none. -/
def combination (d : BitVec 4) : Option PinSample :=
  match d.toNat with
  | 0 => some 0b00#2
  | 1 => some 0b01#2
  | 2 => some 0b11#2
  | 3 => some 0b10#2
  | 4 => some 0b01#2
  | 5 => some 0b10#2
  | 6 => some 0b11#2
  | 7 => some 0b01#2
  | 8 => some 0b10#2
  | _ => none

/-- A decoder output (R105, R140). -/
inductive Direction where
  | none
  | clockwise
  | counterClockwise
deriving DecidableEq, Repr

/-- The direction of a 2-bit code; 11 is no direction (R105). -/
def directionOf (code : BitVec 2) : Option Direction :=
  match code.toNat with
  | 0 => some .none
  | 1 => some .clockwise
  | 2 => some .counterClockwise
  | _ => Option.none

/-- One row of a transition table: the entries for the samples 00, 01, 10 and 11, in that order as in R143's second table. -/
structure TableRow where
  on00 : BitVec 6
  on01 : BitVec 6
  on10 : BitVec 6
  on11 : BitVec 6
deriving DecidableEq, Repr

/-- The entry of a row for a sample. -/
def TableRow.entry (r : TableRow) (sample : PinSample) : BitVec 6 :=
  match sample.toNat with
  | 0 => r.on00
  | 1 => r.on01
  | 2 => r.on10
  | _ => r.on11

/-- TT[0], full-step: the hexadecimal table of R143, row by state code. -/
def fullStepRow (d : BitVec 4) : TableRow :=
  match d.toNat with
  | 0 => ⟨0x00#6, 0x04#6, 0x14#6, 0x24#6⟩
  | 1 => ⟨0x00#6, 0x04#6, 0x24#6, 0x08#6⟩
  | 2 => ⟨0x00#6, 0x10#6, 0x0C#6, 0x08#6⟩
  | 3 => ⟨0x01#6, 0x24#6, 0x0C#6, 0x08#6⟩
  | 4 => ⟨0x00#6, 0x10#6, 0x24#6, 0x08#6⟩
  | 5 => ⟨0x00#6, 0x24#6, 0x14#6, 0x18#6⟩
  | 6 => ⟨0x00#6, 0x1C#6, 0x20#6, 0x18#6⟩
  | 7 => ⟨0x02#6, 0x1C#6, 0x24#6, 0x18#6⟩
  | 8 => ⟨0x00#6, 0x24#6, 0x20#6, 0x18#6⟩
  | _ => ⟨0x00#6, 0x24#6, 0x24#6, 0x24#6⟩

/-- TT[1], half-step: the hexadecimal table of R143, row by state code. -/
def halfStepRow (d : BitVec 4) : TableRow :=
  match d.toNat with
  | 0 => ⟨0x00#6, 0x04#6, 0x14#6, 0x24#6⟩
  | 1 => ⟨0x00#6, 0x04#6, 0x24#6, 0x09#6⟩
  | 2 => ⟨0x00#6, 0x10#6, 0x0C#6, 0x08#6⟩
  | 3 => ⟨0x01#6, 0x24#6, 0x0C#6, 0x08#6⟩
  | 4 => ⟨0x02#6, 0x10#6, 0x24#6, 0x08#6⟩
  | 5 => ⟨0x00#6, 0x24#6, 0x14#6, 0x1A#6⟩
  | 6 => ⟨0x00#6, 0x1C#6, 0x20#6, 0x18#6⟩
  | 7 => ⟨0x02#6, 0x1C#6, 0x24#6, 0x18#6⟩
  | 8 => ⟨0x01#6, 0x24#6, 0x20#6, 0x18#6⟩
  | _ => ⟨0x00#6, 0x24#6, 0x24#6, 0x24#6⟩

/-- TT[g][s][x], a 6-bit entry of the fixed transition table (R44, R143; log entry 8). -/
def tableEntry (g : Granularity) (d : BitVec 4) (sample : PinSample) : BitVec 6 :=
  match g with
  | .full => (fullStepRow d).entry sample
  | .half => (halfStepRow d).entry sample

/-- `process`: one table lookup, giving {NEXT[3:0], DIR[1:0]} (R105, R140, R142). -/
def process (d : BitVec 4) (g : Granularity) (sample : PinSample) : BitVec 4 × BitVec 2 :=
  ((tableEntry g d sample).extractLsb 5 2, (tableEntry g d sample).extractLsb 1 0)

end Sys2Proof.Machine
end

