-- ==== Sys2Proof/Machine/Scaler.lean ====
section
/-! DEFINITION. Machine/Scaler.lean: VelocityScaler and the SAMPLE command (spec/42_velocity_scaler.md). -/

namespace Sys2Proof.Machine

/-- The multiplier of an interval: slowest bucket first, the first match wins, and an interval equal to a ceiling falls into
the faster bucket (R11, R185; log entry 9). -/
def bucket (ceilSlow ceilMedium ceilFast : BitVec 32) (interval : TickCount) : Result :=
  if ceilSlow < zext32 interval then 1#16
  else if ceilMedium < zext32 interval then 5#16
  else if ceilFast < zext32 interval then 20#16
  else 100#16

/-- The multiplier of a detent completed at `tick`: 1 for the first detent after construction (R184), else the bucket of the
wrap-safe interval since the last one (R182, R185). -/
def multiplierAt (tick : TickCount) (s : State) : Result :=
  if s.first then 1#16
  else bucket s.ceilSlow s.ceilMedium s.ceilFast (elapsed s.lastTick tick)

/-- A detent completes at `tick`: LAST_TICK takes it and FIRST is cleared (R183, R184). -/
def State.recordDetent (tick : TickCount) (s : State) : State :=
  { s with lastTick := tick, first := false }

/-- `scale(dir, tick)`: the step value and the state it leaves. Without a detent it is 0 and nothing is touched (R180, R181);
else it is +m for Clockwise and -m for CounterClockwise (R186). -/
def scale (dir : Direction) (tick : TickCount) (s : State) : State × Result :=
  match dir with
  | .none => (s, 0#16)
  | .clockwise => (s.recordDetent tick, multiplierAt tick s)
  | .counterClockwise => (s.recordDetent tick, -multiplierAt tick s)

/-- DSTATE takes the table's next state, unconditionally (R142). -/
def State.setDState (d : BitVec 4) (s : State) : State := { s with dstate := d }

/-- STEP_OUT takes a step value, 0 included (R41). -/
def State.publish (v : Result) (s : State) : State := { s with stepOut := v }

/-- The effect of a SAMPLE whose table entry gives next state `n` and direction `dir` (R190). -/
def sampled (n : BitVec 4) (dir : Direction) (tick : TickCount) (s : State) : State :=
  ((scale dir tick (s.setDState n)).1.publish (scale dir tick (s.setDState n)).2).answer
    (scale dir tick (s.setDState n)).2

/-- SAMPLE (R190). Its reserved bits are checked by the decoder, before this meaning (R257). -/
def execSample (pins : PinSample) (tick : TickCount) (s : State) : Host.Outcome State Fault Refusal :=
  if permits (.sample pins tick) s.ctx = false then .next (s.raise .contextViolation)
  else if s.configured = false then .next (s.raise .notConfigured)
  else
    match directionOf (process s.dstate s.gran pins).2 with
    | some dir => .next (sampled (process s.dstate s.gran pins).1 dir tick s)
    | Option.none => .fault .reservedDirection

end Sys2Proof.Machine
end

