-- ==== Sys2Proof/Machine/Dispatch.lean ====
section
/-! DEFINITION. Machine/Dispatch.lean: one arm per command. -/

namespace Sys2Proof.Machine

/-- The meaning of an instruction in a state whose `ctx` is the context that issued it. -/
def exec (i : Instr) (s : State) : Host.Outcome State Fault Refusal :=
  match i with
  | .configure gran ppr => Sys2Proof.Machine.execConfigure gran ppr s
  | .sample pins tick => Sys2Proof.Machine.execSample pins tick s
  | .elapsed prev cur => Sys2Proof.Machine.execElapsed prev cur s
  | .readStep => Sys2Proof.Machine.execReadStep s

end Sys2Proof.Machine
end

