-- ==== Sys2Proof/Machine/Step.lean ====
section
/-! DEFINITION. Machine/Step.lean: one step takes one input and completes it (R16, R73). -/

namespace Sys2Proof.Machine

/-- One atomic step: a command is decoded and executed, an illegal word fails, a reset event resets, and with no input the block
waits (R16, R73, R90, R254, R290). -/
def step (s : State) : Host.Outcome State Fault Refusal :=
  match fetch s with
  | .idle => waitForCommand s
  | .reset s' => .next s'
  | .command w s' =>
    match decode w with
    | .ok i => exec i s'
    | .error why => execIllegal why s'

/-- The state with a table row's word as the next command, issued by a context that may issue it (log entry 6). -/
def State.withFetchWord (s : State) (nbits w : Nat) : State :=
  s.placeWord (tableWord nbits w)

end Sys2Proof.Machine
end

