-- ==== Sys2Proof/Machine/Assembler.lean ====
section
/-! DEFINITION. Machine/Assembler.lean: the assembler lines of R103 and the pseudo-instructions of R104, as data. -/

namespace Sys2Proof.Machine

/-- A line without its context; numbers are written as the line writes them. -/
inductive AsmBody where
  | configure (ppr : Nat) (gran : Granularity)
  | sample (ba : PinSample) (tick : Nat)
  | elapsed (prev : Nat) (cur : Nat)
  | readStep
  /-- `.word <hex>`: a 36-bit word as it stands. -/
  | word (value : Nat)
  | cwcycle (tick : Nat)
  | ccwcycle (tick : Nat)
  | rest (tick : Nat)
deriving DecidableEq, Repr

/-- `<ctx>: <mnemonic> <operands>` (R103). -/
structure AsmLine where
  ctx : Ctx
  body : AsmBody
deriving DecidableEq, Repr

/-- Every number fits its operand (u16, or 36 bits for `.word`), and a pseudo-instruction is issued from ISR
(R103, R104; log entry 12). -/
def AsmLine.wf (l : AsmLine) : Bool :=
  match l.body with
  | .configure ppr _ => decide (ppr < 2 ^ 16)
  | .sample _ tick => decide (tick < 2 ^ 16)
  | .elapsed prev cur => decide (prev < 2 ^ 16) && decide (cur < 2 ^ 16)
  | .readStep => true
  | .word value => decide (value < 2 ^ 36)
  | .cwcycle tick => decide (l.ctx = .isr) && decide (tick < 2 ^ 16)
  | .ccwcycle tick => decide (l.ctx = .isr) && decide (tick < 2 ^ 16)
  | .rest tick => decide (l.ctx = .isr) && decide (tick < 2 ^ 16)

/-- The word of a SAMPLE line (R103). -/
def sampleLineWord (ba : PinSample) (tick : Nat) : Nat :=
  0x200000000 + ba.toNat * 2 ^ 16 + tick

/-- The words of a line, by the sums of R103 and the expansions of R104. -/
def AsmBody.words : AsmBody → List Nat
  | .configure ppr gran => [0x100000000 + gran.bit.toNat * 2 ^ 16 + ppr]
  | .sample ba tick => [sampleLineWord ba tick]
  | .elapsed prev cur => [0x300000000 + prev * 2 ^ 16 + cur]
  | .readStep => [0x400000000]
  | .word value => [value]
  | .cwcycle t =>
    [sampleLineWord 0b01#2 t, sampleLineWord 0b11#2 t, sampleLineWord 0b10#2 t, sampleLineWord 0b00#2 t]
  | .ccwcycle t =>
    [sampleLineWord 0b10#2 t, sampleLineWord 0b11#2 t, sampleLineWord 0b01#2 t, sampleLineWord 0b00#2 t]
  | .rest t => [sampleLineWord 0b00#2 t]

/-- The inputs a line stands for; none for a line that is not well formed. -/
def AsmLine.assemble (l : AsmLine) : Option (List Input) :=
  if l.wf then some (l.body.words.map fun w => .command l.ctx.bit (BitVec.ofNat 36 w)) else none

/-- Load a program from outside: its commands are the inputs to come, in order, from index 0 (R31). It takes the place of whatever is
still pending, which is dropped. DESIGN CHOICE (log entry 6): R31 and R73 do not say what becomes of those inputs. -/
def State.load (program : List Input) (s : State) : State :=
  { s with pending := program, index := 0 }

end Sys2Proof.Machine
end

