-- ==== Sys2Proof/Safety.lean ====
section
/-! DEFINITION. Safety.lean: the terms the statements use: the invariant of a run, what a step takes, runs of SAMPLE commands,
walks of the pins, and which states no requester can tell apart. -/

namespace Sys2Proof.Safety

open Sys2Proof.Machine

/-- The values STEP_OUT may hold (R41). -/
def stepValues : List Result :=
  [-100#16, -20#16, -5#16, -1#16, 0#16, 1#16, 5#16, 20#16, 100#16]

/-- What every step keeps, and what rules out states no run reaches. -/
structure Inv (s : State) : Prop where
  /-- No rule writes the codes 10 to 15 (R36). -/
  dstate_named : s.dstate.toNat ≤ 9
  /-- STEP_OUT holds a step value (R41). -/
  stepOut_legal : s.stepOut ∈ stepValues
  /-- Until a detent completes, LAST_TICK and STEP_OUT hold their initial 0 (R38, R41). -/
  before_first : s.first = true → s.lastTick = 0#16 ∧ s.stepOut = 0#16
  /-- Before a CONFIGURE succeeds, the other registers hold their reset values (R290, R291). -/
  unconfigured : s.configured = false →
    s.gran = .full ∧ s.ppr = 0#16 ∧ s.ceilSlow = 0#32 ∧ s.ceilMedium = 0#32 ∧ s.ceilFast = 0#32 ∧
    s.ceilVfast = 0#32 ∧ s.dstate = START ∧ s.first = true
  /-- After one, PPR is positive and the ceilings are its scaled thresholds (R35, R40). -/
  configured : s.configured = true →
    s.ppr ≠ 0#16 ∧
    s.ceilSlow.toNat = Config.params.bSlow * Config.params.refPpr / s.ppr.toNat ∧
    s.ceilMedium.toNat = Config.params.bMedium * Config.params.refPpr / s.ppr.toNat ∧
    s.ceilFast.toNat = Config.params.bFast * Config.params.refPpr / s.ppr.toNat ∧
    s.ceilVfast.toNat = Config.params.bVfast * Config.params.refPpr / s.ppr.toNat
  /-- STATUS is 0 to 4; a failure answers result 0 and is recorded in FAULT_LOG (R97, R255). -/
  response_legal : ∀ r, s.response = some r →
    r.status.toNat ≤ 4 ∧ (r.status ≠ okCode → r.result = 0#16 ∧ s.faultLog.getLsbD (r.status.toNat - 1) = true)

/-- The next input is the reset event. -/
def TakesReset (s : State) : Prop := s.pending.head? = some .reset

/-- The next input is a CONFIGURE that succeeds: CTX = 0, POLL (R102, R220). -/
def TakesConfigure (s : State) : Prop :=
  ∃ w gran ppr, s.pending.head? = some (.command 0#1 w) ∧ decode w = .ok (.configure gran ppr) ∧ ppr ≠ 0#16

/-- The next input is a SAMPLE that succeeds: CTX = 1, ISR (R102, R190). -/
def TakesSample (s : State) : Prop :=
  s.configured = true ∧ ∃ w pins tick, s.pending.head? = some (.command 1#1 w) ∧ decode w = .ok (.sample pins tick)

/-- `k` steps of the machine. -/
def run : Nat → State → Host.Outcome State Fault Refusal
  | 0, s => .next s
  | k + 1, s =>
    match step s with
    | .next s' => run k s'
    | .fault r => .fault r
    | .refused r => .refused r

/-- The result of a command that has just been answered; 0 when none was. -/
def resultOf (s : State) : Result :=
  match s.response with
  | some r => r.result
  | none => 0#16

/-- SAMPLE commands executed in order from a state, with the result of each; none if one of them does not answer a next state. -/
def sampleRun (s : State) : List (PinSample × TickCount) → Option (State × List Result)
  | [] => some (s, [])
  | (pins, tick) :: more =>
    match exec (.sample pins tick) s with
    | .next s' =>
      match sampleRun s' more with
      | some (t, results) => some (t, resultOf s' :: results)
      | none => none
    | .fault _ => none
    | .refused _ => none

/-- The pins after one clockwise edge: 00→01→11→10→00 (R149). -/
def clockwiseNext (p : PinSample) : PinSample :=
  match p.toNat with
  | 0 => 0b01#2
  | 1 => 0b11#2
  | 3 => 0b10#2
  | _ => 0b00#2

/-- A change of at most one channel between two samples (the glossary's edge, or no change). -/
def noJump (p q : PinSample) : Bool :=
  channelA p == channelA q || channelB p == channelB q

/-- No two consecutive samples differ in both channels, the first compared with the pins `p`. -/
def cleanWalk (p : PinSample) : List (PinSample × TickCount) → Bool
  | [] => true
  | (q, _) :: more => noJump p q && cleanWalk q more

/-- The pins after a walk from the pins `p`. -/
def pinsAfter (p : PinSample) : List (PinSample × TickCount) → PinSample
  | [] => p
  | (q, _) :: more => pinsAfter q more

/-- The edges of a walk from the pins `p`: changes of exactly one channel between two consecutive samples (the glossary's edge). -/
def edgesIn (p : PinSample) : List (PinSample × TickCount) → Nat
  | [] => 0
  | (q, _) :: more =>
    (if (channelA p != channelA q) != (channelB p != channelB q) then 1 else 0) + edgesIn q more

/-- Clockwise edges less counter-clockwise edges of a walk from the pins `p` (R152). -/
def netEdges (p : PinSample) : List (PinSample × TickCount) → Int
  | [] => 0
  | (q, _) :: more =>
    (if q = clockwiseNext p then 1 else if p = clockwiseNext q then -1 else 0) + netEdges q more

/-- A turn: samples from rest at 00 until the pins are back at 00 (R150); every sample but the last is another combination. -/
def IsTurn (walk : List (PinSample × TickCount)) : Prop :=
  ∃ body tick, walk = body ++ [(0b00#2, tick)] ∧ ∀ x ∈ body, x.1 ≠ 0b00#2

/-- A turn that passes the whole sequence of R149 one way: no jump, and four edges more one way than the other. -/
def PassesTheSequence (turn : List (PinSample × TickCount)) : Prop :=
  cleanWalk 0b00#2 turn = true ∧ (netEdges 0b00#2 turn = 4 ∨ netEdges 0b00#2 turn = -4)

/-- No turn in a walk from rest passes the whole sequence (R150). -/
def NeverPassesTheSequence (walk : List (PinSample × TickCount)) : Prop :=
  ∀ pre turn post, walk = pre ++ turn ++ post → pinsAfter 0b00#2 pre = 0b00#2 → IsTurn turn → ¬PassesTheSequence turn

/-- Positive results less negative results: CW emissions less CCW emissions (R152, R186). -/
def netEvents : List Result → Int
  | [] => 0
  | r :: more => (if 0 < r.toInt then 1 else if r.toInt < 0 then -1 else 0) + netEvents more

/-- Two states that differ at most in PPR, CEIL_VFAST and FAULT_LOG, the registers R32 lists as read by none. -/
def SameButUnread (s t : State) : Prop :=
  t = { s with ppr := t.ppr, ceilVfast := t.ceilVfast, faultLog := t.faultLog }

/-- Two states a requester cannot tell apart before construction: the interface, CONFIGURED and STEP_OUT agree, and once configured
the states are equal but for FAULT_LOG. -/
def SameInterface (s t : State) : Prop :=
  s.configured = t.configured ∧ s.stepOut = t.stepOut ∧ s.ctx = t.ctx ∧ s.response = t.response ∧
  s.pending = t.pending ∧ s.index = t.index ∧
  (s.configured = true → t = { s with faultLog := t.faultLog })

end Sys2Proof.Safety
end

