-- ==== Sys2Proof/WellFormed.lean ====
section
/-! DEFINITION. WellFormed.lean: which command words R99 lets pass.
Every operand of Instr has its width in its type (R98), so no term of Instr is ill-formed and Instr needs no check of its own;
the checks are those of a WORD: one on the opcode and one on the reserved bits of each format that has any. -/

namespace Sys2Proof.WellFormed

/-- OP = WORD[35:32] is one of the four opcodes of R91. -/
def legalOpcode (w : CommandWord) : Bool :=
  w.toNat / 2 ^ 32 == 1 || w.toNat / 2 ^ 32 == 2 || w.toNat / 2 ^ 32 == 3 || w.toNat / 2 ^ 32 == 4

/-- A CFG word has WORD[31:17] zero (R93). -/
def cfgReservedClear (w : CommandWord) : Bool :=
  w.toNat / 2 ^ 32 != 1 || w.toNat % 2 ^ 32 / 2 ^ 17 == 0

/-- An SMP word has WORD[31:18] zero (R94). -/
def smpReservedClear (w : CommandWord) : Bool :=
  w.toNat / 2 ^ 32 != 2 || w.toNat % 2 ^ 32 / 2 ^ 18 == 0

/-- An RD word has WORD[31:0] zero (R96). -/
def rdReservedClear (w : CommandWord) : Bool :=
  w.toNat / 2 ^ 32 != 4 || w.toNat % 2 ^ 32 == 0

/-- A word that is not illegal by R99. -/
def legalWord (w : CommandWord) : Bool :=
  legalOpcode w && cfgReservedClear w && smpReservedClear w && rdReservedClear w

end Sys2Proof.WellFormed
end

