-- ==== Sys2Proof/Certificates/Slice0/Obligations.lean ====
section
/-! DEFINITION. Certificates/Slice0/Obligations.lean: what is claimed of the model, for the provers.
A state written `{ s with … }` names every field a command changes: every other register, and the rest of the interface, is as in s.
The block has no memory and no program counter, so no frame speaks of them. -/

open Sys2Proof
open Sys2Proof.Machine
open Sys2Proof.Safety

/-! ### Encoding (spec/30_encoding.md) -/

/-- Words written out in spec/95_test_vectors.md section 3 and their meaning, by R92 to R96 and R99. -/
def Obligations.SpecWordsDecode : Prop :=
  decode 0x100000014#36 = .ok (.configure .full 20#16) ∧
  decode 0x100010028#36 = .ok (.configure .half 40#16) ∧
  decode 0x200010064#36 = .ok (.sample 0b01#2 100#16) ∧
  decode 0x200022328#36 = .ok (.sample 0b10#2 9000#16) ∧
  decode 0x3FFFA000A#36 = .ok (.elapsed 65530#16 10#16) ∧
  decode 0x400000000#36 = .ok .readStep ∧
  decode 0x100020014#36 = .error .reservedBits ∧
  decode 0x240000258#36 = .error .reservedBits ∧
  decode 0x400000001#36 = .error .reservedBits ∧
  decode 0x000000000#36 = .error .reservedOpcode ∧
  decode 0x500000000#36 = .error .reservedOpcode

/-- No bit of an encoding is dropped: every instruction, with every operand value, is read back (R92 to R96). -/
def Obligations.DecodeInvertsEncode : Prop :=
  ∀ i : Instr, decode (encode i) = .ok i

/-- A legal word has one meaning and is the word of that instruction: nothing in it is ignored (R92, R99). -/
def Obligations.EncodeInvertsDecode : Prop :=
  ∀ (w : CommandWord) (i : Instr), decode w = .ok i → encode i = w

/-- The masks of R100, which the decoder does not use, say which word is which command; every other word is rejected. -/
def Obligations.DecodingFollowsTheMasks : Prop :=
  ∀ w : CommandWord,
    ((∃ gran ppr, decode w = .ok (.configure gran ppr)) ↔ w &&& 0xFFFFE0000#36 = 0x100000000#36) ∧
    ((∃ pins tick, decode w = .ok (.sample pins tick)) ↔ w &&& 0xFFFFC0000#36 = 0x200000000#36) ∧
    ((∃ prev cur, decode w = .ok (.elapsed prev cur)) ↔ w &&& 0xF00000000#36 = 0x300000000#36) ∧
    (decode w = .ok .readStep ↔ w = 0x400000000#36) ∧
    ((∃ why, decode w = .error why) ↔
      w &&& 0xFFFFE0000#36 ≠ 0x100000000#36 ∧ w &&& 0xFFFFC0000#36 ≠ 0x200000000#36 ∧
      w &&& 0xF00000000#36 ≠ 0x300000000#36 ∧ w ≠ 0x400000000#36)

/-- R103 and R104: a well-formed line assembles to words of its own context that decode to the commands it spells. -/
def Obligations.AssemblerLinesSpellTheirCommands : Prop :=
  ∀ l : AsmLine, l.wf = true →
    ∃ ws : List CommandWord, l.assemble = some (ws.map (Input.command l.ctx.bit)) ∧
      ws.map decode =
        match l.body with
        | .configure ppr gran => [.ok (.configure gran (BitVec.ofNat 16 ppr))]
        | .sample ba tick => [.ok (.sample ba (BitVec.ofNat 16 tick))]
        | .elapsed prev cur => [.ok (.elapsed (BitVec.ofNat 16 prev) (BitVec.ofNat 16 cur))]
        | .readStep => [.ok .readStep]
        | .word value => [decode (BitVec.ofNat 36 value)]
        | .cwcycle t => [.ok (.sample 0b01#2 (BitVec.ofNat 16 t)), .ok (.sample 0b11#2 (BitVec.ofNat 16 t)),
            .ok (.sample 0b10#2 (BitVec.ofNat 16 t)), .ok (.sample 0b00#2 (BitVec.ofNat 16 t))]
        | .ccwcycle t => [.ok (.sample 0b10#2 (BitVec.ofNat 16 t)), .ok (.sample 0b11#2 (BitVec.ofNat 16 t)),
            .ok (.sample 0b01#2 (BitVec.ofNat 16 t)), .ok (.sample 0b00#2 (BitVec.ofNat 16 t))]
        | .rest t => [.ok (.sample 0b00#2 (BitVec.ofNat 16 t))]

/-! ### The step -/

/-- A step runs the command its word decodes to, in the context its CTX bit gives, 1 = ISR and 0 = POLL, with the position moved on by
one (R31, R90, R102).
How inputs wait in a list is the model's own (log entry 1). -/
def Obligations.StepRunsTheDecodedCommand : Prop :=
  ∀ (s : State) (c : BitVec 1) (w : CommandWord) (rest : List Input) (i : Instr),
    s.pending = .command c w :: rest → decode w = .ok i →
      step s = exec i { s with ctx := if c = 1#1 then .isr else .poll, pending := rest, index := s.index + 1 }

/-- R99 and R254, by the reserved values of the word itself: an illegal word fails with IllegalCommand and changes nothing but
FAULT_LOG, and no other word fails so. -/
def Obligations.IllegalWordsFailAndNoOthers : Prop :=
  ∀ (s : State) (c : BitVec 1) (w : CommandWord) (rest : List Input),
    s.pending = .command c w :: rest →
      (WellFormed.legalWord w = false →
        step s = .next { s with
          ctx := Ctx.ofBit c, pending := rest, index := s.index + 1
          faultLog := s.faultLog ||| 8#4, response := some ⟨4#3, 0#16⟩ }) ∧
      (WellFormed.legalWord w = true →
        ∃ t r, step s = .next t ∧ t.response = some r ∧ r.status ≠ 4#3)

/-- R31 and R90: every command, whether it succeeds or fails, is answered and advances the position by 1, which counts from 0. -/
def Obligations.EveryCommandIsAnsweredAndAdvancesTheIndex : Prop :=
  State.reset.index = 0 ∧
  ∀ (s : State) (c : BitVec 1) (w : CommandWord) (rest : List Input),
    s.pending = .command c w :: rest →
      ∃ t r, step s = .next t ∧ t.response = some r ∧ t.index = s.index + 1 ∧ t.pending = rest

/-- With no input the block waits (R266, R290). The model's choice (log entry 4): a step that leaves the state as it was. -/
def Obligations.NoPendingInputChangesNothing : Prop :=
  ∀ s : State, s.pending = [] → step s = .next s

/-- R290: the state after reset, every register after the reset event, from any state, and that the block then waits. The waiting clause
is the model's choice (DESIGN CHOICE, log entry 4): a step without input leaves the state as it was. -/
def Obligations.ResetGivesEveryRegisterItsResetValue : Prop :=
  (State.reset.configured = false ∧ State.reset.gran = .full ∧ State.reset.ppr = 0#16 ∧
    State.reset.ceilSlow = 0#32 ∧ State.reset.ceilMedium = 0#32 ∧ State.reset.ceilFast = 0#32 ∧
    State.reset.ceilVfast = 0#32 ∧ State.reset.dstate = 0#4 ∧ State.reset.lastTick = 0#16 ∧
    State.reset.first = true ∧ State.reset.stepOut = 0#16 ∧ State.reset.faultLog = 0#4) ∧
  step State.reset = .next State.reset ∧
  ∀ (s : State) (rest : List Input), s.pending = .reset :: rest →
    ∃ t, step s = .next t ∧ t.configured = false ∧ t.gran = .full ∧ t.ppr = 0#16 ∧
      t.ceilSlow = 0#32 ∧ t.ceilMedium = 0#32 ∧ t.ceilFast = 0#32 ∧ t.ceilVfast = 0#32 ∧
      t.dstate = 0#4 ∧ t.lastTick = 0#16 ∧ t.first = true ∧ t.stepOut = 0#16 ∧ t.faultLog = 0#4

/-- The model's choice of how a word is placed for the next step (log entry 6): step runs exactly the word's instruction, issued by
a context that may issue it. -/
def Obligations.APlacedWordRunsNext : Prop :=
  ∀ (s : State) (i : Instr),
    step (s.withFetchWord 40 (encode i).toNat) =
      exec i { s with
        ctx := match i with | .sample _ _ => .isr | _ => .poll
        pending := s.pending.tail, index := s.index + 1 }

/-! ### Errors (spec/60_exceptions.md) -/

/-- R255: a failing command sets its FAULT_LOG bit, answers (code, 0) and changes nothing else; and no step ever stops. -/
def Obligations.ErrorsArePreciseAndNoStepStops : Prop :=
  ∀ s : State, (∃ t, step s = .next t) ∧
    ∀ (c : BitVec 1) (w : CommandWord) (rest : List Input) (t : State) (r : Response),
      s.pending = .command c w :: rest → step s = .next t → t.response = some r → r.status ≠ 0#3 →
        1 ≤ r.status.toNat ∧ r.status.toNat ≤ 4 ∧ r.result = 0#16 ∧
        t = { s with
          ctx := Ctx.ofBit c, pending := rest, index := s.index + 1
          faultLog := s.faultLog ||| (1#4 <<< (r.status.toNat - 1)), response := some r }

/-- R257: exactly one error is reported, by a fixed priority, read off the word, the CTX bit (0 = POLL, 1 = ISR, R102) and CONFIGURED alone. -/
def Obligations.StatusFollowsThePriority : Prop :=
  ∀ (s : State) (c : BitVec 1) (w : CommandWord) (rest : List Input),
    s.pending = .command c w :: rest →
      ∃ t r, step s = .next t ∧ t.response = some r ∧
        r.status =
          (if WellFormed.legalWord w = false then 4#3
          else if (w.toNat / 2 ^ 32 = 1 ∧ c = 1#1) ∨ (w.toNat / 2 ^ 32 = 2 ∧ c = 0#1) then 3#3
          else if w.toNat / 2 ^ 32 = 2 ∧ s.configured = false then 2#3
          else if w.toNat / 2 ^ 32 = 1 ∧ w.toNat % 2 ^ 16 = 0 then 1#3
          else 0#3) ∧
        (r.status ≠ 0#3 → t.faultLog = s.faultLog ||| (1#4 <<< (r.status.toNat - 1)))

/-- R253 and R258: SAMPLE from POLL and CONFIGURE from ISR fail with ContextViolation; nothing else does. -/
def Obligations.ContextsMayIssueTheirCommandsOnly : Prop :=
  (∀ (s : State) (pins : PinSample) (tick : TickCount), s.ctx = .poll →
    exec (.sample pins tick) s =
      .next { s with faultLog := s.faultLog ||| 4#4, response := some ⟨3#3, 0#16⟩ }) ∧
  (∀ (s : State) (gran : Granularity) (ppr : BitVec 16), s.ctx = .isr →
    exec (.configure gran ppr) s =
      .next { s with faultLog := s.faultLog ||| 4#4, response := some ⟨3#3, 0#16⟩ }) ∧
  (∀ (s : State) (i : Instr),
    (match i with
      | .configure _ _ => s.ctx = .poll
      | .sample _ _ => s.ctx = .isr
      | .elapsed _ _ => True
      | .readStep => True) →
    ∃ t r, exec i s = .next t ∧ t.response = some r ∧ r.status ≠ 3#3)

/-- R252: a SAMPLE while CONFIGURED is 0 fails with NotConfigured. -/
def Obligations.SampleBeforeConstructionFails : Prop :=
  ∀ (s : State) (pins : PinSample) (tick : TickCount), s.ctx = .isr → s.configured = false →
    exec (.sample pins tick) s =
      .next { s with faultLog := s.faultLog ||| 2#4, response := some ⟨2#3, 0#16⟩ }

/-- R221 and R251: a CONFIGURE with PPR = 0 fails with InvalidConfiguration and leaves the block as it was, configured or not; only
such a command raises that error. -/
def Obligations.OnlyZeroPprIsAnInvalidConfiguration : Prop :=
  (∀ (s : State) (gran : Granularity), s.ctx = .poll →
    exec (.configure gran 0#16) s =
      .next { s with faultLog := s.faultLog ||| 1#4, response := some ⟨1#3, 0#16⟩ }) ∧
  (∀ (s t : State) (i : Instr) (r : Response), exec i s = .next t → t.response = some r → r.status = 1#3 →
    ∃ gran, i = .configure gran 0#16 ∧ s.ctx = .poll)

/-- R42: bit k of FAULT_LOG is set when a command fails with code k+1 and stays set until reset; no command reads FAULT_LOG. -/
def Obligations.FaultLogIsStickyAndUnread : Prop :=
  (∀ (s t : State) (c : BitVec 1) (w : CommandWord) (rest : List Input) (r : Response),
    s.pending = .command c w :: rest → step s = .next t → t.response = some r →
      ∀ k, k < 4 → t.faultLog.getLsbD k = (s.faultLog.getLsbD k || decide (r.status.toNat = k + 1))) ∧
  (∀ (s : State) (rest : List Input), s.pending = .reset :: rest → ∃ t, step s = .next t ∧ t.faultLog = 0#4) ∧
  (∀ (s t : State) (log : BitVec 4), step s = .next t →
    ∃ u, step { s with faultLog := log } = .next u ∧ u = { t with faultLog := u.faultLog })

/-! ### CONFIGURE (spec/43_configuration_and_handoff.md) -/

/-- R220 and R222: a CONFIGURE from POLL with PPR > 0 succeeds, on a configured block too, and writes every register except
FAULT_LOG. -/
def Obligations.ConfigureInitialisesTheBlock : Prop :=
  ∀ (s : State) (gran : Granularity) (ppr : BitVec 16), s.ctx = .poll → ppr ≠ 0#16 →
    exec (.configure gran ppr) s =
      .next { s with
        configured := true, gran := gran, ppr := ppr
        ceilSlow := BitVec.ofNat 32 (Config.params.bSlow * Config.params.refPpr / ppr.toNat)
        ceilMedium := BitVec.ofNat 32 (Config.params.bMedium * Config.params.refPpr / ppr.toNat)
        ceilFast := BitVec.ofNat 32 (Config.params.bFast * Config.params.refPpr / ppr.toNat)
        ceilVfast := BitVec.ofNat 32 (Config.params.bVfast * Config.params.refPpr / ppr.toNat)
        dstate := 0#4, lastTick := 0#16, first := true, stepOut := 0#16
        response := some ⟨0#3, 0#16⟩ }

/-- R40 and R223: each ceiling is the exact quotient, with nothing cut off by its 32 bits, and the four do not increase. -/
def Obligations.CeilingsAreExactAndOrdered : Prop :=
  ∀ (s : State) (gran : Granularity) (ppr : BitVec 16), s.ctx = .poll → ppr ≠ 0#16 →
    ∃ t, exec (.configure gran ppr) s = .next t ∧
      t.ceilSlow.toNat = Config.params.bSlow * Config.params.refPpr / ppr.toNat ∧
      t.ceilMedium.toNat = Config.params.bMedium * Config.params.refPpr / ppr.toNat ∧
      t.ceilFast.toNat = Config.params.bFast * Config.params.refPpr / ppr.toNat ∧
      t.ceilVfast.toNat = Config.params.bVfast * Config.params.refPpr / ppr.toNat ∧
      t.ceilMedium.toNat ≤ t.ceilSlow.toNat ∧ t.ceilFast.toNat ≤ t.ceilMedium.toNat ∧
      t.ceilVfast.toNat ≤ t.ceilFast.toNat

/-- The halving law of R192, a derived rule: doubling PPR halves every ceiling, rounding down. -/
def Obligations.DoublingPprHalvesEveryCeiling : Prop :=
  ∀ (s u : State) (gran : Granularity) (ppr ppr2 : BitVec 16), s.ctx = .poll → u.ctx = .poll → ppr ≠ 0#16 →
    ppr2.toNat = 2 * ppr.toNat →
    ∃ t v, exec (.configure gran ppr) s = .next t ∧ exec (.configure gran ppr2) u = .next v ∧
      v.ceilSlow.toNat = t.ceilSlow.toNat / 2 ∧ v.ceilMedium.toNat = t.ceilMedium.toNat / 2 ∧
      v.ceilFast.toNat = t.ceilFast.toNat / 2 ∧ v.ceilVfast.toNat = t.ceilVfast.toNat / 2

/-- The derived rule R187: the exact thresholds B × REF_PPR / PPR decrease strictly (cross-multiplied), and rounding them down
loses nothing: an interval falls into the bucket the exact thresholds give it. -/
def Obligations.StoredCeilingsDecideAsTheExactThresholds : Prop :=
  (Config.params.bMedium * Config.params.refPpr < Config.params.bSlow * Config.params.refPpr ∧
    Config.params.bFast * Config.params.refPpr < Config.params.bMedium * Config.params.refPpr ∧
    Config.params.bVfast * Config.params.refPpr < Config.params.bFast * Config.params.refPpr) ∧
  ∀ (s : State) (gran : Granularity) (ppr : BitVec 16), s.ctx = .poll → ppr ≠ 0#16 →
    ∃ t, exec (.configure gran ppr) s = .next t ∧ ∀ i : TickCount,
      bucket t.ceilSlow t.ceilMedium t.ceilFast i =
        (if Config.params.bSlow * Config.params.refPpr < i.toNat * ppr.toNat then 1#16
        else if Config.params.bMedium * Config.params.refPpr < i.toNat * ppr.toNat then 5#16
        else if Config.params.bFast * Config.params.refPpr < i.toNat * ppr.toNat then 20#16
        else 100#16)

/-- The derived rule R188, for every parameter set whose numbers fit u16: at baseline PPR the source's four examples hold exactly
when the base values keep the bounds of R10. -/
def Obligations.BaselineExamplesForceTheBounds : Prop :=
  ∀ (p : Params) (s : State) (gran : Granularity),
    1 ≤ p.refPpr → p.refPpr ≤ 65535 → p.bSlow ≤ 65535 → p.bMedium ≤ 65535 → p.bFast ≤ 65535 → s.ctx = .poll →
    ∃ t, configureWith p gran (BitVec.ofNat 16 p.refPpr) s = .next t ∧
      ((bucket t.ceilSlow t.ceilMedium t.ceilFast 9000#16 = 1#16 ∧
        bucket t.ceilSlow t.ceilMedium t.ceilFast 3000#16 = 5#16 ∧
        bucket t.ceilSlow t.ceilMedium t.ceilFast 1500#16 = 20#16 ∧
        bucket t.ceilSlow t.ceilMedium t.ceilFast 500#16 = 100#16) ↔
      (3000 ≤ p.bSlow ∧ p.bSlow < 9000) ∧ (1500 ≤ p.bMedium ∧ p.bMedium < 3000) ∧ (500 ≤ p.bFast ∧ p.bFast < 1500))

/-- The source's four examples on this machine, whatever its parameters: after a CONFIGURE at baseline PPR, detents 9000, 3000, 1500
and 500 ticks after the last one, in either direction, step by 1, 5, 20 and 100. -/
def Obligations.BaselineIntervalsStepAsTheSourceSays : Prop :=
  ∀ (s : State) (gran : Granularity), s.ctx = .poll →
    ∃ t, exec (.configure gran (BitVec.ofNat 16 Config.params.refPpr)) s = .next t ∧
      ∀ (u : State) (pins : PinSample) (tick : TickCount),
        u.ceilSlow = t.ceilSlow → u.ceilMedium = t.ceilMedium → u.ceilFast = t.ceilFast →
        u.ctx = .isr → u.configured = true → u.first = false → (process u.dstate u.gran pins).2 ≠ 0b00#2 →
        ∃ v, exec (.sample pins tick) u = .next v ∧
          (tick - u.lastTick = 9000#16 → v.stepOut.toInt.natAbs = 1) ∧
          (tick - u.lastTick = 3000#16 → v.stepOut.toInt.natAbs = 5) ∧
          (tick - u.lastTick = 1500#16 → v.stepOut.toInt.natAbs = 20) ∧
          (tick - u.lastTick = 500#16 → v.stepOut.toInt.natAbs = 100)

/-! ### SAMPLE (spec/41_quadrature_decoder.md, spec/42_velocity_scaler.md) -/

/-- R154 and R195: a SAMPLE from ISR on a configured block always succeeds; it moves DSTATE to the table's next state, and its one
result is the step value it publishes, which is not 0 exactly when the table marks the transition. -/
def Obligations.SampleNeverFailsOnceConfigured : Prop :=
  ∀ (s : State) (pins : PinSample) (tick : TickCount), s.ctx = .isr → s.configured = true →
    ∃ t, exec (.sample pins tick) s = .next t ∧ t.dstate = (process s.dstate s.gran pins).1 ∧
      t.response = some ⟨0#3, t.stepOut⟩ ∧ t.stepOut ∈ stepValues ∧
      (t.stepOut ≠ 0#16 ↔ (process s.dstate s.gran pins).2 ≠ 0b00#2)

/-- R181: without a completed detent the step value is 0 and LAST_TICK and FIRST are not touched. -/
def Obligations.SampleWithoutDetentStepsZero : Prop :=
  ∀ (s : State) (pins : PinSample) (tick : TickCount), s.ctx = .isr → s.configured = true →
    (process s.dstate s.gran pins).2 = 0b00#2 →
    exec (.sample pins tick) s =
      .next { s with
        dstate := (process s.dstate s.gran pins).1, stepOut := 0#16, response := some ⟨0#3, 0#16⟩ }

/-- R183, R184 and R186: the first detent after construction steps by 1 in its direction, whatever its tick, records the tick and
clears FIRST. -/
def Obligations.FirstDetentStepsByOne : Prop :=
  ∀ (s : State) (pins : PinSample) (tick : TickCount), s.ctx = .isr → s.configured = true → s.first = true →
    ((process s.dstate s.gran pins).2 = 0b01#2 →
      exec (.sample pins tick) s =
        .next { s with
          dstate := (process s.dstate s.gran pins).1, lastTick := tick, first := false
          stepOut := 0x0001#16, response := some ⟨0#3, 0x0001#16⟩ }) ∧
    ((process s.dstate s.gran pins).2 = 0b10#2 →
      exec (.sample pins tick) s =
        .next { s with
          dstate := (process s.dstate s.gran pins).1, lastTick := tick, first := false
          stepOut := 0xFFFF#16, response := some ⟨0#3, 0xFFFF#16⟩ })

/-- R182, R183, R185 and R186: a later detent steps by the multiplier of its wrap-safe interval, an interval equal to a ceiling in the
faster bucket, with the sign of its direction. -/
def Obligations.LaterDetentsStepByTheirBucket : Prop :=
  ∀ (s : State) (pins : PinSample) (tick : TickCount) (i : Nat),
    s.ctx = .isr → s.configured = true → s.first = false →
    i = (tick.toNat + 65536 - s.lastTick.toNat) % 65536 →
    ∃ m : Result,
      ((s.ceilSlow.toNat < i ∧ m = 1#16) ∨
        (i ≤ s.ceilSlow.toNat ∧ s.ceilMedium.toNat < i ∧ m = 5#16) ∨
        (i ≤ s.ceilSlow.toNat ∧ i ≤ s.ceilMedium.toNat ∧ s.ceilFast.toNat < i ∧ m = 20#16) ∨
        (i ≤ s.ceilSlow.toNat ∧ i ≤ s.ceilMedium.toNat ∧ i ≤ s.ceilFast.toNat ∧ m = 100#16)) ∧
      ((process s.dstate s.gran pins).2 = 0b01#2 →
        exec (.sample pins tick) s =
          .next { s with
            dstate := (process s.dstate s.gran pins).1, lastTick := tick, first := false
            stepOut := m, response := some ⟨0#3, m⟩ }) ∧
      ((process s.dstate s.gran pins).2 = 0b10#2 →
        exec (.sample pins tick) s =
          .next { s with
            dstate := (process s.dstate s.gran pins).1, lastTick := tick, first := false
            stepOut := -m, response := some ⟨0#3, -m⟩ })

/-- R144: in full-step exactly two transitions step, CW3 and CCW3 on the sample 00, and both lead to START. -/
def Obligations.FullStepMarksTwoTransitions : Prop :=
  ∀ (s : State) (pins : PinSample) (tick : TickCount), s.ctx = .isr → s.configured = true → s.gran = .full →
    ∃ t, exec (.sample pins tick) s = .next t ∧
      (0 < t.stepOut.toInt ↔ s.dstate = CW3 ∧ pins = 0b00#2) ∧
      (t.stepOut.toInt < 0 ↔ s.dstate = CCW3 ∧ pins = 0b00#2) ∧
      (t.stepOut.toInt ≠ 0 → t.dstate = START)

/-- R146: in half-step exactly six transitions step, two per half-cycle rest point and direction. -/
def Obligations.HalfStepMarksSixTransitions : Prop :=
  ∀ (s : State) (pins : PinSample) (tick : TickCount), s.ctx = .isr → s.configured = true → s.gran = .half →
    ∃ t, exec (.sample pins tick) s = .next t ∧
      (0 < t.stepOut.toInt ↔
        (s.dstate = CW1 ∧ pins = 0b11#2) ∨ (s.dstate = CW3 ∧ pins = 0b00#2) ∨ (s.dstate = CCWR ∧ pins = 0b00#2)) ∧
      (t.stepOut.toInt < 0 ↔
        (s.dstate = CCW1 ∧ pins = 0b11#2) ∨ (s.dstate = CCW3 ∧ pins = 0b00#2) ∨ (s.dstate = CWR ∧ pins = 0b00#2))

/-- R147: a repeated sample changes nothing, an edge back undoes the last one, a jump goes to START on 00 and to RESYNC otherwise,
RESYNC waits for 00; none of them steps. -/
def Obligations.BouncesAndJumpsNeverStep : Prop :=
  ∀ (s : State) (pins : PinSample) (tick : TickCount), s.ctx = .isr → s.configured = true →
    ∃ t, exec (.sample pins tick) s = .next t ∧
      (combination s.dstate = some pins → t.dstate = s.dstate ∧ t.stepOut = 0#16) ∧
      (∀ q, combination s.dstate = some q → channelA q ≠ channelA pins → channelB q ≠ channelB pins →
        t.dstate = (if pins = 0b00#2 then START else RESYNC) ∧ t.stepOut = 0#16) ∧
      (s.dstate = CW1 ∨ s.dstate = CCW1 → pins = 0b00#2 → t.dstate = START ∧ t.stepOut = 0#16) ∧
      (s.dstate = CW3 ∨ s.dstate = CWR → pins = 0b11#2 → t.dstate = CW2 ∧ t.stepOut = 0#16) ∧
      (s.dstate = CCW3 ∨ s.dstate = CCWR → pins = 0b11#2 → t.dstate = CCW2 ∧ t.stepOut = 0#16) ∧
      (s.dstate = RESYNC → t.dstate = (if pins = 0b00#2 then START else RESYNC) ∧ t.stepOut = 0#16)

/-- R145: the unused codes go to START on 00 and to RESYNC otherwise, and never step; from a named code no step writes one. -/
def Obligations.UnusedStateCodesNeverStep : Prop :=
  (∀ (s : State) (pins : PinSample) (tick : TickCount), s.ctx = .isr → s.configured = true → 10 ≤ s.dstate.toNat →
    ∃ t, exec (.sample pins tick) s = .next t ∧
      t.dstate = (if pins = 0b00#2 then START else RESYNC) ∧ t.stepOut = 0#16) ∧
  State.reset.dstate.toNat ≤ 9 ∧
  (∀ s t : State, s.dstate.toNat ≤ 9 → step s = .next t → t.dstate.toNat ≤ 9)

/-- The derived rule R153: after a SAMPLE, DSTATE stands for its pins, or is RESYNC and the pins were not 00. -/
def Obligations.StateAgreesWithTheLastSample : Prop :=
  ∀ (s : State) (pins : PinSample) (tick : TickCount), s.ctx = .isr → s.configured = true →
    ∃ t, exec (.sample pins tick) s = .next t ∧
      (t.dstate ≠ RESYNC → combination t.dstate = some pins) ∧ (t.dstate = RESYNC → pins ≠ 0b00#2)

/-- The derived rule R149, at any ticks: a clean full-step cycle gives exactly one event, at its last sample. -/
def Obligations.CleanFullStepCyclesStepOnce : Prop :=
  ∀ (s : State) (t0 t1 t2 t3 t4 : TickCount),
    s.ctx = .isr → s.configured = true → s.gran = .full → s.dstate = START →
      (∃ t m, sampleRun s [(0b00#2, t0), (0b01#2, t1), (0b11#2, t2), (0b10#2, t3), (0b00#2, t4)] =
        some (t, [0#16, 0#16, 0#16, 0#16, m]) ∧ 0 < m.toInt ∧ t.dstate = START) ∧
      (∃ t m, sampleRun s [(0b00#2, t0), (0b10#2, t1), (0b11#2, t2), (0b01#2, t3), (0b00#2, t4)] =
        some (t, [0#16, 0#16, 0#16, 0#16, m]) ∧ m.toInt < 0 ∧ t.dstate = START)

/-- The derived rule R150: 00→01→00 and 00→10→00 step nothing in either granularity and leave LAST_TICK and FIRST. In full-step the same
holds of every walk from START, bounces, jumps and repeats included, in which no turn from 00 back to 00 passes the whole sequence one
way. In half-step a turn to 11 and back does step (R146), so nothing is said of it here. -/
def Obligations.UnfinishedTurnsNeverStep : Prop :=
  ∀ s : State, s.ctx = .isr → s.configured = true → s.dstate = START →
    (∀ (p : PinSample) (t1 t2 : TickCount), p = 0b01#2 ∨ p = 0b10#2 →
      ∃ t, sampleRun s [(p, t1), (0b00#2, t2)] = some (t, [0#16, 0#16]) ∧
        t.dstate = START ∧ t.lastTick = s.lastTick ∧ t.first = s.first) ∧
    (s.gran = .full → ∀ walk, NeverPassesTheSequence walk →
      ∃ t, sampleRun s walk = some (t, List.replicate walk.length 0#16) ∧
        t.lastTick = s.lastTick ∧ t.first = s.first ∧ (pinsAfter 0b00#2 walk = 0b00#2 → t.dstate = START))

/-- The derived rule R151: where an emission leads, and that after one no samples with fewer than four edges (full-step) or two edges
(half-step) among them emit again, however many they are and whatever jumps they hold. -/
def Obligations.EmissionsAreApart : Prop :=
  ∀ (s t : State) (pins : PinSample) (tick : TickCount), s.ctx = .isr → s.configured = true →
    exec (.sample pins tick) s = .next t → t.stepOut ≠ 0#16 →
      (s.gran = .full →
        (s.dstate = CW3 ∨ s.dstate = CCW3) ∧ t.dstate = START ∧
        ∀ walk, edgesIn pins walk < 4 → ∃ u, sampleRun t walk = some (u, List.replicate walk.length 0#16)) ∧
      (s.gran = .half →
        ((t.dstate = CW2 ∧ s.dstate = CW1) ∨ (t.dstate = CCW2 ∧ s.dstate = CCW1) ∨
          (t.dstate = START ∧ (s.dstate = CW3 ∨ s.dstate = CWR ∨ s.dstate = CCW3 ∨ s.dstate = CCWR))) ∧
        ∀ walk, edgesIn pins walk < 2 → ∃ u, sampleRun t walk = some (u, List.replicate walk.length 0#16))

/-- The derived rule R152: on a walk without jumps from START that ends in START, events count edges exactly, a quarter of them in
full-step and half of them in half-step. -/
def Obligations.NetCountOnCleanWalks : Prop :=
  ∀ (s : State) (walk : List (PinSample × TickCount)),
    s.ctx = .isr → s.configured = true → s.dstate = START → cleanWalk 0b00#2 walk = true →
      ∃ t results, sampleRun s walk = some (t, results) ∧ results.length = walk.length ∧
        (t.dstate = START →
          (s.gran = .full → netEdges 0b00#2 walk = 4 * netEvents results) ∧
          (s.gran = .half → netEdges 0b00#2 walk = 2 * netEvents results))

/-- The derived rule R155: from START an encoder at 01 or 10 is read as a first edge; one at 11 is a jump, and nothing steps until
the sample 00 is seen. -/
def Obligations.FirstSampleIsReadAsAMoveFromRest : Prop :=
  ∀ (s : State) (tick : TickCount), s.ctx = .isr → s.configured = true → s.dstate = START →
    (∃ t, exec (.sample 0b01#2 tick) s = .next t ∧ t.dstate = CW1 ∧ t.stepOut = 0#16) ∧
    (∃ t, exec (.sample 0b10#2 tick) s = .next t ∧ t.dstate = CCW1 ∧ t.stepOut = 0#16) ∧
    (∀ more : List (PinSample × TickCount), (∀ x ∈ more, x.1 ≠ 0b00#2) →
      ∃ t, sampleRun s ((0b11#2, tick) :: more) = some (t, List.replicate (more.length + 1) 0#16) ∧
        t.dstate = RESYNC)

/-- The derived rule R191: with fixed ceilings and FIRST = 0, a detent that comes no later after the last one, in either
direction, never steps by less. -/
def Obligations.FasterDetentsNeverStepLess : Prop :=
  ∀ (s : State) (pins : PinSample) (tick1 tick2 : TickCount),
    s.ctx = .isr → s.configured = true → s.first = false → (process s.dstate s.gran pins).2 ≠ 0b00#2 →
    (tick1 - s.lastTick).toNat ≤ (tick2 - s.lastTick).toNat →
    ∃ t u, exec (.sample pins tick1) s = .next t ∧ exec (.sample pins tick2) s = .next u ∧
      u.stepOut.toInt.natAbs ≤ t.stepOut.toInt.natAbs

/-- The derived rule R193, for the machine's own parameters, which are open, and for every other admissible set: the ceilings CONFIGURE
leaves follow the linear formula, and on those ceilings a detent after the first steps by at least 5 where the formula gives a slow
ceiling of 65535 or more, and by 100 (at interval 0) or 1 where it gives slow ceiling 0, and with it the other two. -/
def Obligations.CeilingsAreNotClamped : Prop :=
  (Config.params.Admissible ∧ ∀ (gran : Granularity) (ppr : BitVec 16) (s : State),
    exec (.configure gran ppr) s = configureWith Config.params gran ppr s) ∧
  ∀ (p : Params) (s : State) (gran : Granularity) (ppr : BitVec 16), p.Admissible → s.ctx = .poll → ppr ≠ 0#16 →
    ∃ t, configureWith p gran ppr s = .next t ∧
      t.ceilSlow.toNat = p.bSlow * p.refPpr / ppr.toNat ∧ t.ceilMedium.toNat = p.bMedium * p.refPpr / ppr.toNat ∧
      t.ceilFast.toNat = p.bFast * p.refPpr / ppr.toNat ∧ t.ceilVfast.toNat = p.bVfast * p.refPpr / ppr.toNat ∧
      ∀ (u : State) (pins : PinSample) (tick : TickCount),
        u.ceilSlow = t.ceilSlow → u.ceilMedium = t.ceilMedium → u.ceilFast = t.ceilFast →
        u.ctx = .isr → u.configured = true → u.first = false → (process u.dstate u.gran pins).2 ≠ 0b00#2 →
        ∃ v, exec (.sample pins tick) u = .next v ∧
          (65535 ≤ p.bSlow * p.refPpr / ppr.toNat → 5 ≤ v.stepOut.toInt.natAbs) ∧
          (p.bSlow * p.refPpr / ppr.toNat = 0 →
            v.stepOut.toInt.natAbs = if tick = u.lastTick then 100 else 1)

/-! ### ELAPSED (spec/40_wrap_safe_interval.md) -/

/-- R120 and R121: ELAPSED answers CUR - PREV modulo 2^16 in any state and context, and writes no register. -/
def Obligations.ElapsedAnswersTheModularDifference : Prop :=
  ∀ (s : State) (prev cur : TickCount), ∃ r : Result,
    exec (.elapsed prev cur) s = .next { s with response := some ⟨0#3, r⟩ } ∧
      r.toNat = (cur.toNat + 65536 - prev.toNat) % 65536

/-- R122: no error path, and a true elapsed time of n ticks, however long, is answered as n mod 65536. -/
def Obligations.ElapsedAliasesWholePeriods : Prop :=
  ∀ (s : State) (prev : TickCount) (n : Nat), ∃ t,
    exec (.elapsed prev (prev + BitVec.ofNat 16 n)) s = .next t ∧
      t.response = some ⟨0#3, BitVec.ofNat 16 (n % 65536)⟩

/-- The derived rules R123 and R125: the laws of the interval, and that reading the counter as signed gives the same. -/
def Obligations.IntervalLaws : Prop :=
  ∀ a b c : TickCount,
    elapsed a a = 0#16 ∧ elapsed a b + elapsed b c = elapsed a c ∧ elapsed a (a + b) = b ∧
    (elapsed a b = 0#16 ↔ a = b) ∧ elapsed a b = BitVec.ofInt 16 (b.toInt - a.toInt)

/-- R124: the interval a SAMPLE scales is the one ELAPSED answers for LAST_TICK and TICK. -/
def Obligations.SampleScalesTheIntervalElapsedAnswers : Prop :=
  ∀ (s u : State) (pins : PinSample) (tick : TickCount),
    s.ctx = .isr → s.configured = true → s.first = false → (process s.dstate s.gran pins).2 ≠ 0b00#2 →
    ∃ t v r, exec (.elapsed s.lastTick tick) u = .next v ∧ v.response = some ⟨0#3, r⟩ ∧
      exec (.sample pins tick) s = .next t ∧
      t.stepOut.toInt.natAbs = (bucket s.ceilSlow s.ceilMedium s.ceilFast r).toNat

/-! ### READ_STEP and the hand-off (spec/20_memory.md, spec/43_configuration_and_handoff.md) -/

/-- R225: READ_STEP answers STEP_OUT in any state and context, and writes no register. -/
def Obligations.ReadStepAnswersStepOut : Prop :=
  ∀ s : State, exec .readStep s = .next { s with response := some ⟨0#3, s.stepOut⟩ }

/-- The hand-off of spec/20_memory.md section 3: however many steps pass, as long as none takes a reset or a SAMPLE or CONFIGURE that
succeeds, a READ_STEP answers the STEP_OUT there was before them, and reading it consumes nothing. -/
def Obligations.ReadStepAnswersTheLastPublishedValue : Prop :=
  ∀ (k : Nat) (s t : State) (c : BitVec 1) (rest : List Input),
    run k s = .next t →
    (∀ j u, j < k → run j s = .next u → ¬TakesReset u ∧ ¬TakesConfigure u ∧ ¬TakesSample u) →
    t.pending = .command c 0x400000000#36 :: rest →
      ∃ v, step t = .next v ∧ v.response = some ⟨0#3, s.stepOut⟩ ∧ v.stepOut = s.stepOut

/-- The derived rule R74: repeating READ_STEP or ELAPSED gives the same response, and so does repeating a SAMPLE that completed no
detent and left DSTATE as it was. -/
def Obligations.RepeatedReadsAnswerTheSame : Prop :=
  (∀ (s t u : State) (i : Instr), (i = .readStep ∨ ∃ a b, i = .elapsed a b) →
    exec i s = .next t → exec i t = .next u → u.response = t.response) ∧
  (∀ (s t u : State) (pins : PinSample) (tick : TickCount), s.ctx = .isr → s.configured = true →
    (process s.dstate s.gran pins).2 = 0b00#2 → exec (.sample pins tick) s = .next t → t.dstate = s.dstate →
    exec (.sample pins tick) t = .next u → u.response = t.response)

/-! ### Rules about the whole machine -/

/-- The written-by column of R32, with R37 and R38: what a step may change, by the input it takes. -/
def Obligations.RegistersAreWrittenByTheirCommandsOnly : Prop :=
  ∀ s t : State, step s = .next t → ¬TakesReset s →
    (¬TakesConfigure s →
      t.configured = s.configured ∧ t.gran = s.gran ∧ t.ppr = s.ppr ∧ t.ceilSlow = s.ceilSlow ∧
      t.ceilMedium = s.ceilMedium ∧ t.ceilFast = s.ceilFast ∧ t.ceilVfast = s.ceilVfast) ∧
    (¬TakesConfigure s → ¬TakesSample s →
      t.dstate = s.dstate ∧ t.lastTick = s.lastTick ∧ t.first = s.first ∧ t.stepOut = s.stepOut) ∧
    (TakesSample s → t.stepOut = 0#16 → t.lastTick = s.lastTick ∧ t.first = s.first) ∧
    (t.faultLog ≠ s.faultLog → ∃ r, t.response = some r ∧ r.status ≠ 0#3)

/-- R33: CONFIGURED is set by a successful CONFIGURE, cleared by reset and by nothing else. -/
def Obligations.ConfiguredIsSetByConfigureAndClearedByReset : Prop :=
  ∀ s : State, ∃ t, step s = .next t ∧
    (t.configured = true ↔ TakesConfigure s ∨ (s.configured = true ∧ ¬TakesReset s))

/-- R189, and the registers R32 lists as read by none: PPR, CEIL_VFAST and FAULT_LOG never change a response or another register,
however long the run. -/
def Obligations.UnreadRegistersNeverShow : Prop :=
  ∀ (k : Nat) (s1 s2 t1 : State), SameButUnread s1 s2 → run k s1 = .next t1 →
    ∃ t2, run k s2 = .next t2 ∧ SameButUnread t1 t2 ∧ t2.response = t1.response

/-- The last clause of R38: while FIRST is 1 the value of LAST_TICK cannot be observed, however long the run. -/
def Obligations.LastTickNeverShowsBeforeTheFirstDetent : Prop :=
  ∀ (k : Nat) (s1 s2 t1 : State) (tick : TickCount), s1.first = true → s2 = { s1 with lastTick := tick } →
    run k s1 = .next t1 →
    ∃ t2, run k s2 = .next t2 ∧ t2 = { t1 with lastTick := t2.lastTick } ∧ (t1.first = false → t2 = t1)

/-- Before construction only STEP_OUT shows (spec/92_eei_decisions.md D15): two blocks whose interfaces, CONFIGURED and STEP_OUT agree
answer every run alike. -/
def Obligations.OnlyStepOutShowsBeforeConstruction : Prop :=
  ∀ (k : Nat) (s1 s2 t1 : State), SameInterface s1 s2 → run k s1 = .next t1 →
    ∃ t2, run k s2 = .next t2 ∧ SameInterface t1 t2

/-- The invariant holds in the state after reset. -/
def Obligations.InvariantHoldsAtReset : Prop := Inv State.reset

/-- From every state that meets the invariant a step gives a state that meets it: DSTATE stays a named code, STEP_OUT a step value, the
ceilings the exact thresholds of PPR, an unconfigured block at its reset values, and a failure is always recorded. -/
def Obligations.EveryStepKeepsTheInvariant : Prop :=
  ∀ s t : State, Inv s → step s = .next t → Inv t
end

