-- ==== Sys2Proof/Laws/Config.lean ====
section
/-! SUPPORT. Laws/Config.lean: the machine's parameters are an admissible set, and no admissible set is left out. -/

namespace Sys2Proof

/-- R10 and R12 hold of the machine's parameters, whatever the free numbers are. -/
theorem Config.params_admissible : Config.params.Admissible := by
  have hV := Nat.mod_lt Config.freeVfast (show 0 < 500 + Config.freeFast % 1000 by omega)
  simp only [Params.Admissible, Config.params]
  omega

/-- Each admissible set is the value of `Config.params` for some free numbers. -/
theorem Params.Admissible.covered {p : Params} (h : p.Admissible) :
    ∃ r s m f v : Nat, p = ⟨1 + r % 65535, 3000 + s % 6000, 1500 + m % 1500, 500 + f % 1000, v % (500 + f % 1000)⟩ := by
  cases p with | mk refPpr bSlow bMedium bFast bVfast =>
  simp only [Params.Admissible] at h
  refine ⟨refPpr - 1, bSlow - 3000, bMedium - 1500, bFast - 500, bVfast, ?_⟩
  have hF : 500 + (bFast - 500) % 1000 = bFast := by omega
  rw [hF, Nat.mod_eq_of_lt (show bVfast < bFast by omega), Params.mk.injEq]
  omega

end Sys2Proof
end

