-- ==== Sys2Proof/Laws/Decode.lean ====
section
/-! SUPPORT. Laws/Decode.lean: fields and concatenations as numbers, the one-bit codes, and when the decoder gives which instruction. -/

namespace Sys2Proof

/-- {a, b} as a number (R13). -/
theorem toNat_append_add {k n : Nat} (x : BitVec k) (y : BitVec n) : (x ++ y).toNat = x.toNat * 2 ^ n + y.toNat := by
  rw [BitVec.toNat_append, Nat.shiftLeft_eq, Nat.mul_comm, Nat.two_pow_add_eq_or_of_lt y.isLt]

/-- v[hi:lo] as a number (R13). -/
theorem toNat_field {n : Nat} (v : BitVec n) (hi lo : Nat) :
    (v.extractLsb hi lo).toNat = v.toNat / 2 ^ lo % 2 ^ (hi - lo + 1) := by
  rw [BitVec.extractLsb_toNat, Nat.shiftRight_eq_div_pow]

/-- A mask that keeps the high bits alone. -/
theorem mask_append {k n : Nat} (x m : BitVec k) (y : BitVec n) :
    (x ++ y) &&& (m ++ 0#n) = (x &&& m) ++ 0#n := by
  ext i hi
  simp only [BitVec.getElem_and, BitVec.getElem_append]
  split <;> simp

theorem Granularity.bit_toNat_le (g : Granularity) : g.bit.toNat ≤ 1 := by cases g <;> decide

@[simp] theorem Granularity.ofBit_bit (g : Granularity) : Granularity.ofBit g.bit = g := by cases g <;> rfl

theorem Granularity.bit_ofBit (b : BitVec 1) : (Granularity.ofBit b).bit = b := by revert b; decide

@[simp] theorem Ctx.ofBit_bit (c : Ctx) : Ctx.ofBit c.bit = c := by cases c <;> rfl

theorem Ctx.bit_ofBit (b : BitVec 1) : (Ctx.ofBit b).bit = b := by revert b; decide

/-- A context is the one its bit says (R102). -/
theorem Ctx.ofBit_eq_isr_iff (b : BitVec 1) : Ctx.ofBit b = .isr ↔ b = 1#1 := by revert b; decide

theorem Ctx.ofBit_eq_poll_iff (b : BitVec 1) : Ctx.ofBit b = .poll ↔ b = 0#1 := by revert b; decide

theorem encode_toNat (i : Instr) : (encode i).toNat =
    match i with
    | .configure gran ppr => 2 ^ 32 + gran.bit.toNat * 2 ^ 16 + ppr.toNat
    | .sample pins tick => 2 * 2 ^ 32 + pins.toNat * 2 ^ 16 + tick.toNat
    | .elapsed prev cur => 3 * 2 ^ 32 + prev.toNat * 2 ^ 16 + cur.toNat
    | .readStep => 4 * 2 ^ 32 := by
  cases i <;> simp only [encode, toNat_append_add, BitVec.toNat_ofNat] <;> omega

theorem opcodeOf_toNat (w : CommandWord) : (opcodeOf w).toNat = w.toNat / 2 ^ 32 := by
  have := w.isLt
  rw [opcodeOf, toNat_field]
  omega

/-- The illegal words of R99, by the word's number. -/
theorem legalWord_eq_true_iff (w : CommandWord) : WellFormed.legalWord w = true ↔
    (w.toNat / 2 ^ 32 = 1 ∨ w.toNat / 2 ^ 32 = 2 ∨ w.toNat / 2 ^ 32 = 3 ∨ w.toNat / 2 ^ 32 = 4) ∧
    (w.toNat / 2 ^ 32 ≠ 1 ∨ w.toNat % 2 ^ 32 / 2 ^ 17 = 0) ∧
    (w.toNat / 2 ^ 32 ≠ 2 ∨ w.toNat % 2 ^ 32 / 2 ^ 18 = 0) ∧
    (w.toNat / 2 ^ 32 ≠ 4 ∨ w.toNat % 2 ^ 32 = 0) := by
  simp only [WellFormed.legalWord, WellFormed.legalOpcode, WellFormed.cfgReservedClear, WellFormed.smpReservedClear,
    WellFormed.rdReservedClear, Bool.and_eq_true, Bool.or_eq_true, beq_iff_eq, bne_iff_ne, and_assoc, or_assoc]

/-- Everything the decoder can answer, by the word's number. -/
theorem decode_cases (w : CommandWord) :
    (w.toNat / 2 ^ 17 = 0x1 * 2 ^ 15 ∧
      decode w = .ok (.configure (Granularity.ofBit (w.extractLsb 16 16)) (w.extractLsb 15 0))) ∨
    (w.toNat / 2 ^ 18 = 0x2 * 2 ^ 14 ∧ decode w = .ok (.sample (w.extractLsb 17 16) (w.extractLsb 15 0))) ∨
    (w.toNat / 2 ^ 32 = 0x3 ∧ decode w = .ok (.elapsed (w.extractLsb 31 16) (w.extractLsb 15 0))) ∨
    (w.toNat = 0x4 * 2 ^ 32 ∧ decode w = .ok .readStep) ∨
    (WellFormed.legalWord w = false ∧ ∃ why, decode w = .error why) := by
  have hw := w.isLt
  have hop := opcodeOf_toNat w
  have hc : w.extractLsb 31 17 = 0#15 ↔ w.toNat / 2 ^ 17 % 2 ^ 15 = 0 := by
    rw [← BitVec.toNat_inj, toNat_field]; simp
  have hs : w.extractLsb 31 18 = 0#14 ↔ w.toNat / 2 ^ 18 % 2 ^ 14 = 0 := by
    rw [← BitVec.toNat_inj, toNat_field]; simp
  have hr : w.extractLsb 31 0 = 0#32 ↔ w.toNat % 2 ^ 32 = 0 := by
    rw [← BitVec.toNat_inj, toNat_field]; simp
  rw [← Bool.not_eq_true, legalWord_eq_true_iff]
  unfold decode
  split
  · next h =>
    unfold decodeCfg
    split
    · next h0 => exact .inl ⟨by rw [hc] at h0; omega, rfl⟩
    · next h0 => exact .inr (.inr (.inr (.inr ⟨by rw [hc] at h0; omega, _, rfl⟩)))
  · next h =>
    unfold decodeSmp
    split
    · next h0 => exact .inr (.inl ⟨by rw [hs] at h0; omega, rfl⟩)
    · next h0 => exact .inr (.inr (.inr (.inr ⟨by rw [hs] at h0; omega, _, rfl⟩)))
  · next h => exact .inr (.inr (.inl ⟨by omega, rfl⟩))
  · next h =>
    unfold decodeRd
    split
    · next h0 => exact .inr (.inr (.inr (.inl ⟨by rw [hr] at h0; omega, rfl⟩)))
    · next h0 => exact .inr (.inr (.inr (.inr ⟨by rw [hr] at h0; omega, _, rfl⟩)))
  · next h1 h2 h3 h4 =>
    refine .inr (.inr (.inr (.inr ⟨fun h => ?_, _, rfl⟩)))
    rcases h.1 with e | e | e | e
    · exact h1 (hop.trans e)
    · exact h2 (hop.trans e)
    · exact h3 (hop.trans e)
    · exact h4 (hop.trans e)

end Sys2Proof
end

