-- ==== Sys2Proof/Laws/Decoder.lean ====
section
/-! SUPPORT. Laws/Decoder.lean: the table's entries, and the two tables of R143 against each other. -/

namespace Sys2Proof.Machine

/-- The direction code 11 occurs in no table entry (R105). -/
theorem directionOf_process (d : BitVec 4) (g : Granularity) (p : PinSample) :
    ∃ dir, directionOf (process d g p).2 = some dir := by
  have h : ∀ d : BitVec 4, ∀ p : PinSample, (directionOf (process d .full p).2).isSome = true ∧
      (directionOf (process d .half p).2).isSome = true := by decide
  cases g with
  | full => exact Option.isSome_iff_exists.mp (h d p).1
  | half => exact Option.isSome_iff_exists.mp (h d p).2

/-- One cell of R143's first table: the next state, and the directions it marks in full-step and in half-step. -/
abbrev Cell := BitVec 4 × Direction × Direction

def plain (next : BitVec 4) : Cell := (next, .none, .none)

/-- R143's first table, cell by cell, for the samples 00, 01, 10 and 11. -/
def cells (d : BitVec 4) : Cell × Cell × Cell × Cell :=
  match d.toNat with
  | 0 => (plain START, plain CW1, plain CCW1, plain RESYNC)
  | 1 => (plain START, plain CW1, plain RESYNC, (CW2, .none, .clockwise))
  | 2 => (plain START, plain CWR, plain CW3, plain CW2)
  | 3 => ((START, .clockwise, .clockwise), plain RESYNC, plain CW3, plain CW2)
  | 4 => ((START, .none, .counterClockwise), plain CWR, plain RESYNC, plain CW2)
  | 5 => (plain START, plain RESYNC, plain CCW1, (CCW2, .none, .counterClockwise))
  | 6 => (plain START, plain CCW3, plain CCWR, plain CCW2)
  | 7 => ((START, .counterClockwise, .counterClockwise), plain CCW3, plain RESYNC, plain CCW2)
  | 8 => ((START, .none, .clockwise), plain RESYNC, plain CCWR, plain CCW2)
  | _ => (plain START, plain RESYNC, plain RESYNC, plain RESYNC)

def cell (d : BitVec 4) (p : PinSample) : Cell :=
  match p.toNat with
  | 0 => (cells d).1
  | 1 => (cells d).2.1
  | 2 => (cells d).2.2.1
  | _ => (cells d).2.2.2

/-- The hexadecimal table the model reads is the table of named cells (R143). -/
theorem process_full_eq_cell : ∀ (d : BitVec 4) (p : PinSample),
    (process d .full p).1 = (cell d p).1 ∧ directionOf (process d .full p).2 = some (cell d p).2.1 := by decide

theorem process_half_eq_cell : ∀ (d : BitVec 4) (p : PinSample),
    (process d .half p).1 = (cell d p).1 ∧ directionOf (process d .half p).2 = some (cell d p).2.2 := by decide

/-- No entry leads to an unused code (R145). -/
theorem process_next_le (d : BitVec 4) (g : Granularity) (p : PinSample) : (process d g p).1.toNat ≤ 9 := by
  have h : ∀ d : BitVec 4, ∀ p : PinSample,
      (process d .full p).1.toNat ≤ 9 ∧ (process d .half p).1.toNat ≤ 9 := by decide
  cases g with
  | full => exact (h d p).1
  | half => exact (h d p).2

end Sys2Proof.Machine
end

