-- ==== Sys2Proof/Laws/State.lean ====
section
/-! SUPPORT. Laws/State.lean: one lemma per field per named update. -/

namespace Sys2Proof.Machine
section answer
variable (result : Result) (s : State)
@[simp] theorem State.answer_configured : (s.answer result).configured = s.configured := rfl
@[simp] theorem State.answer_gran : (s.answer result).gran = s.gran := rfl
@[simp] theorem State.answer_ppr : (s.answer result).ppr = s.ppr := rfl
@[simp] theorem State.answer_ceilSlow : (s.answer result).ceilSlow = s.ceilSlow := rfl
@[simp] theorem State.answer_ceilMedium : (s.answer result).ceilMedium = s.ceilMedium := rfl
@[simp] theorem State.answer_ceilFast : (s.answer result).ceilFast = s.ceilFast := rfl
@[simp] theorem State.answer_ceilVfast : (s.answer result).ceilVfast = s.ceilVfast := rfl
@[simp] theorem State.answer_dstate : (s.answer result).dstate = s.dstate := rfl
@[simp] theorem State.answer_lastTick : (s.answer result).lastTick = s.lastTick := rfl
@[simp] theorem State.answer_first : (s.answer result).first = s.first := rfl
@[simp] theorem State.answer_stepOut : (s.answer result).stepOut = s.stepOut := rfl
@[simp] theorem State.answer_faultLog : (s.answer result).faultLog = s.faultLog := rfl
@[simp] theorem State.answer_ctx : (s.answer result).ctx = s.ctx := rfl
@[simp] theorem State.answer_response : (s.answer result).response = some ⟨okCode, result⟩ := rfl
@[simp] theorem State.answer_pending : (s.answer result).pending = s.pending := rfl
@[simp] theorem State.answer_index : (s.answer result).index = s.index := rfl

end answer

section raise
variable (e : Error) (s : State)
@[simp] theorem State.raise_configured : (s.raise e).configured = s.configured := rfl
@[simp] theorem State.raise_gran : (s.raise e).gran = s.gran := rfl
@[simp] theorem State.raise_ppr : (s.raise e).ppr = s.ppr := rfl
@[simp] theorem State.raise_ceilSlow : (s.raise e).ceilSlow = s.ceilSlow := rfl
@[simp] theorem State.raise_ceilMedium : (s.raise e).ceilMedium = s.ceilMedium := rfl
@[simp] theorem State.raise_ceilFast : (s.raise e).ceilFast = s.ceilFast := rfl
@[simp] theorem State.raise_ceilVfast : (s.raise e).ceilVfast = s.ceilVfast := rfl
@[simp] theorem State.raise_dstate : (s.raise e).dstate = s.dstate := rfl
@[simp] theorem State.raise_lastTick : (s.raise e).lastTick = s.lastTick := rfl
@[simp] theorem State.raise_first : (s.raise e).first = s.first := rfl
@[simp] theorem State.raise_stepOut : (s.raise e).stepOut = s.stepOut := rfl
@[simp] theorem State.raise_faultLog : (s.raise e).faultLog = logError s.faultLog e := rfl
@[simp] theorem State.raise_ctx : (s.raise e).ctx = s.ctx := rfl
@[simp] theorem State.raise_response : (s.raise e).response = some ⟨e.code, 0#16⟩ := rfl
@[simp] theorem State.raise_pending : (s.raise e).pending = s.pending := rfl
@[simp] theorem State.raise_index : (s.raise e).index = s.index := rfl

end raise

section take
variable (c : Ctx) (rest : List Input) (s : State)
@[simp] theorem State.take_configured : (s.take c rest).configured = s.configured := rfl
@[simp] theorem State.take_gran : (s.take c rest).gran = s.gran := rfl
@[simp] theorem State.take_ppr : (s.take c rest).ppr = s.ppr := rfl
@[simp] theorem State.take_ceilSlow : (s.take c rest).ceilSlow = s.ceilSlow := rfl
@[simp] theorem State.take_ceilMedium : (s.take c rest).ceilMedium = s.ceilMedium := rfl
@[simp] theorem State.take_ceilFast : (s.take c rest).ceilFast = s.ceilFast := rfl
@[simp] theorem State.take_ceilVfast : (s.take c rest).ceilVfast = s.ceilVfast := rfl
@[simp] theorem State.take_dstate : (s.take c rest).dstate = s.dstate := rfl
@[simp] theorem State.take_lastTick : (s.take c rest).lastTick = s.lastTick := rfl
@[simp] theorem State.take_first : (s.take c rest).first = s.first := rfl
@[simp] theorem State.take_stepOut : (s.take c rest).stepOut = s.stepOut := rfl
@[simp] theorem State.take_faultLog : (s.take c rest).faultLog = s.faultLog := rfl
@[simp] theorem State.take_ctx : (s.take c rest).ctx = c := rfl
@[simp] theorem State.take_response : (s.take c rest).response = s.response := rfl
@[simp] theorem State.take_pending : (s.take c rest).pending = rest := rfl
@[simp] theorem State.take_index : (s.take c rest).index = s.index + 1 := rfl

end take

section recordDetent
variable (tick : TickCount) (s : State)
@[simp] theorem State.recordDetent_configured : (s.recordDetent tick).configured = s.configured := rfl
@[simp] theorem State.recordDetent_gran : (s.recordDetent tick).gran = s.gran := rfl
@[simp] theorem State.recordDetent_ppr : (s.recordDetent tick).ppr = s.ppr := rfl
@[simp] theorem State.recordDetent_ceilSlow : (s.recordDetent tick).ceilSlow = s.ceilSlow := rfl
@[simp] theorem State.recordDetent_ceilMedium : (s.recordDetent tick).ceilMedium = s.ceilMedium := rfl
@[simp] theorem State.recordDetent_ceilFast : (s.recordDetent tick).ceilFast = s.ceilFast := rfl
@[simp] theorem State.recordDetent_ceilVfast : (s.recordDetent tick).ceilVfast = s.ceilVfast := rfl
@[simp] theorem State.recordDetent_dstate : (s.recordDetent tick).dstate = s.dstate := rfl
@[simp] theorem State.recordDetent_lastTick : (s.recordDetent tick).lastTick = tick := rfl
@[simp] theorem State.recordDetent_first : (s.recordDetent tick).first = false := rfl
@[simp] theorem State.recordDetent_stepOut : (s.recordDetent tick).stepOut = s.stepOut := rfl
@[simp] theorem State.recordDetent_faultLog : (s.recordDetent tick).faultLog = s.faultLog := rfl
@[simp] theorem State.recordDetent_ctx : (s.recordDetent tick).ctx = s.ctx := rfl
@[simp] theorem State.recordDetent_response : (s.recordDetent tick).response = s.response := rfl
@[simp] theorem State.recordDetent_pending : (s.recordDetent tick).pending = s.pending := rfl
@[simp] theorem State.recordDetent_index : (s.recordDetent tick).index = s.index := rfl

end recordDetent

section setDState
variable (d : BitVec 4) (s : State)
@[simp] theorem State.setDState_configured : (s.setDState d).configured = s.configured := rfl
@[simp] theorem State.setDState_gran : (s.setDState d).gran = s.gran := rfl
@[simp] theorem State.setDState_ppr : (s.setDState d).ppr = s.ppr := rfl
@[simp] theorem State.setDState_ceilSlow : (s.setDState d).ceilSlow = s.ceilSlow := rfl
@[simp] theorem State.setDState_ceilMedium : (s.setDState d).ceilMedium = s.ceilMedium := rfl
@[simp] theorem State.setDState_ceilFast : (s.setDState d).ceilFast = s.ceilFast := rfl
@[simp] theorem State.setDState_ceilVfast : (s.setDState d).ceilVfast = s.ceilVfast := rfl
@[simp] theorem State.setDState_dstate : (s.setDState d).dstate = d := rfl
@[simp] theorem State.setDState_lastTick : (s.setDState d).lastTick = s.lastTick := rfl
@[simp] theorem State.setDState_first : (s.setDState d).first = s.first := rfl
@[simp] theorem State.setDState_stepOut : (s.setDState d).stepOut = s.stepOut := rfl
@[simp] theorem State.setDState_faultLog : (s.setDState d).faultLog = s.faultLog := rfl
@[simp] theorem State.setDState_ctx : (s.setDState d).ctx = s.ctx := rfl
@[simp] theorem State.setDState_response : (s.setDState d).response = s.response := rfl
@[simp] theorem State.setDState_pending : (s.setDState d).pending = s.pending := rfl
@[simp] theorem State.setDState_index : (s.setDState d).index = s.index := rfl

end setDState

section publish
variable (v : Result) (s : State)
@[simp] theorem State.publish_configured : (s.publish v).configured = s.configured := rfl
@[simp] theorem State.publish_gran : (s.publish v).gran = s.gran := rfl
@[simp] theorem State.publish_ppr : (s.publish v).ppr = s.ppr := rfl
@[simp] theorem State.publish_ceilSlow : (s.publish v).ceilSlow = s.ceilSlow := rfl
@[simp] theorem State.publish_ceilMedium : (s.publish v).ceilMedium = s.ceilMedium := rfl
@[simp] theorem State.publish_ceilFast : (s.publish v).ceilFast = s.ceilFast := rfl
@[simp] theorem State.publish_ceilVfast : (s.publish v).ceilVfast = s.ceilVfast := rfl
@[simp] theorem State.publish_dstate : (s.publish v).dstate = s.dstate := rfl
@[simp] theorem State.publish_lastTick : (s.publish v).lastTick = s.lastTick := rfl
@[simp] theorem State.publish_first : (s.publish v).first = s.first := rfl
@[simp] theorem State.publish_stepOut : (s.publish v).stepOut = v := rfl
@[simp] theorem State.publish_faultLog : (s.publish v).faultLog = s.faultLog := rfl
@[simp] theorem State.publish_ctx : (s.publish v).ctx = s.ctx := rfl
@[simp] theorem State.publish_response : (s.publish v).response = s.response := rfl
@[simp] theorem State.publish_pending : (s.publish v).pending = s.pending := rfl
@[simp] theorem State.publish_index : (s.publish v).index = s.index := rfl

end publish

section construct
variable (p : Params) (g : Granularity) (n : BitVec 16) (s : State)
@[simp] theorem State.construct_configured : (s.construct p g n).configured = true := rfl
@[simp] theorem State.construct_gran : (s.construct p g n).gran = g := rfl
@[simp] theorem State.construct_ppr : (s.construct p g n).ppr = n := rfl
@[simp] theorem State.construct_ceilSlow : (s.construct p g n).ceilSlow = scaledCeiling p p.bSlow n := rfl
@[simp] theorem State.construct_ceilMedium : (s.construct p g n).ceilMedium = scaledCeiling p p.bMedium n := rfl
@[simp] theorem State.construct_ceilFast : (s.construct p g n).ceilFast = scaledCeiling p p.bFast n := rfl
@[simp] theorem State.construct_ceilVfast : (s.construct p g n).ceilVfast = scaledCeiling p p.bVfast n := rfl
@[simp] theorem State.construct_dstate : (s.construct p g n).dstate = 0#4 := rfl
@[simp] theorem State.construct_lastTick : (s.construct p g n).lastTick = 0#16 := rfl
@[simp] theorem State.construct_first : (s.construct p g n).first = true := rfl
@[simp] theorem State.construct_stepOut : (s.construct p g n).stepOut = 0#16 := rfl
@[simp] theorem State.construct_faultLog : (s.construct p g n).faultLog = s.faultLog := rfl
@[simp] theorem State.construct_ctx : (s.construct p g n).ctx = s.ctx := rfl
@[simp] theorem State.construct_response : (s.construct p g n).response = s.response := rfl
@[simp] theorem State.construct_pending : (s.construct p g n).pending = s.pending := rfl
@[simp] theorem State.construct_index : (s.construct p g n).index = s.index := rfl

end construct

section resetEvent
variable (rest : List Input) (s : State)
@[simp] theorem State.resetEvent_configured : (s.resetEvent rest).configured = false := rfl
@[simp] theorem State.resetEvent_gran : (s.resetEvent rest).gran = .full := rfl
@[simp] theorem State.resetEvent_ppr : (s.resetEvent rest).ppr = 0#16 := rfl
@[simp] theorem State.resetEvent_ceilSlow : (s.resetEvent rest).ceilSlow = 0#32 := rfl
@[simp] theorem State.resetEvent_ceilMedium : (s.resetEvent rest).ceilMedium = 0#32 := rfl
@[simp] theorem State.resetEvent_ceilFast : (s.resetEvent rest).ceilFast = 0#32 := rfl
@[simp] theorem State.resetEvent_ceilVfast : (s.resetEvent rest).ceilVfast = 0#32 := rfl
@[simp] theorem State.resetEvent_dstate : (s.resetEvent rest).dstate = 0#4 := rfl
@[simp] theorem State.resetEvent_lastTick : (s.resetEvent rest).lastTick = 0#16 := rfl
@[simp] theorem State.resetEvent_first : (s.resetEvent rest).first = true := rfl
@[simp] theorem State.resetEvent_stepOut : (s.resetEvent rest).stepOut = 0#16 := rfl
@[simp] theorem State.resetEvent_faultLog : (s.resetEvent rest).faultLog = 0#4 := rfl
@[simp] theorem State.resetEvent_ctx : (s.resetEvent rest).ctx = .poll := rfl
@[simp] theorem State.resetEvent_response : (s.resetEvent rest).response = none := rfl
@[simp] theorem State.resetEvent_pending : (s.resetEvent rest).pending = rest := rfl
@[simp] theorem State.resetEvent_index : (s.resetEvent rest).index = s.index := rfl

end resetEvent

section load
variable (program : List Input) (s : State)
@[simp] theorem State.load_configured : (s.load program).configured = s.configured := rfl
@[simp] theorem State.load_gran : (s.load program).gran = s.gran := rfl
@[simp] theorem State.load_ppr : (s.load program).ppr = s.ppr := rfl
@[simp] theorem State.load_ceilSlow : (s.load program).ceilSlow = s.ceilSlow := rfl
@[simp] theorem State.load_ceilMedium : (s.load program).ceilMedium = s.ceilMedium := rfl
@[simp] theorem State.load_ceilFast : (s.load program).ceilFast = s.ceilFast := rfl
@[simp] theorem State.load_ceilVfast : (s.load program).ceilVfast = s.ceilVfast := rfl
@[simp] theorem State.load_dstate : (s.load program).dstate = s.dstate := rfl
@[simp] theorem State.load_lastTick : (s.load program).lastTick = s.lastTick := rfl
@[simp] theorem State.load_first : (s.load program).first = s.first := rfl
@[simp] theorem State.load_stepOut : (s.load program).stepOut = s.stepOut := rfl
@[simp] theorem State.load_faultLog : (s.load program).faultLog = s.faultLog := rfl
@[simp] theorem State.load_ctx : (s.load program).ctx = s.ctx := rfl
@[simp] theorem State.load_response : (s.load program).response = s.response := rfl
@[simp] theorem State.load_pending : (s.load program).pending = program := rfl
@[simp] theorem State.load_index : (s.load program).index = 0 := rfl

end load

section reset

@[simp] theorem State.reset_configured : State.reset.configured = false := rfl
@[simp] theorem State.reset_gran : State.reset.gran = .full := rfl
@[simp] theorem State.reset_ppr : State.reset.ppr = 0#16 := rfl
@[simp] theorem State.reset_ceilSlow : State.reset.ceilSlow = 0#32 := rfl
@[simp] theorem State.reset_ceilMedium : State.reset.ceilMedium = 0#32 := rfl
@[simp] theorem State.reset_ceilFast : State.reset.ceilFast = 0#32 := rfl
@[simp] theorem State.reset_ceilVfast : State.reset.ceilVfast = 0#32 := rfl
@[simp] theorem State.reset_dstate : State.reset.dstate = 0#4 := rfl
@[simp] theorem State.reset_lastTick : State.reset.lastTick = 0#16 := rfl
@[simp] theorem State.reset_first : State.reset.first = true := rfl
@[simp] theorem State.reset_stepOut : State.reset.stepOut = 0#16 := rfl
@[simp] theorem State.reset_faultLog : State.reset.faultLog = 0#4 := rfl
@[simp] theorem State.reset_ctx : State.reset.ctx = .poll := rfl
@[simp] theorem State.reset_response : State.reset.response = none := rfl
@[simp] theorem State.reset_pending : State.reset.pending = [] := rfl
@[simp] theorem State.reset_index : State.reset.index = 0 := rfl

end reset

end Sys2Proof.Machine
end

