-- ==== Sys2Proof/Laws/Meanings.lean ====
section
/-! SUPPORT. Laws/Meanings.lean: what each meaning can answer, said once each, and the arithmetic of the scaler. -/

namespace Sys2Proof.Machine

open Host (Outcome)

/-- A ceiling of an admissible parameter set fits its 32 bits (R40). -/
theorem scaledCeiling_toNat {p : Params} (hp : p.Admissible) {base : Nat} (hb : base ≤ 65535) (ppr : BitVec 16) :
    (scaledCeiling p base ppr).toNat = base * p.refPpr / ppr.toNat := by
  have h1 : base * p.refPpr ≤ 65535 * 65535 := Nat.mul_le_mul hb hp.1.2
  have h2 := Nat.div_le_self (base * p.refPpr) ppr.toNat
  rw [scaledCeiling, BitVec.toNat_ofNat, Nat.mod_eq_of_lt (by omega)]

theorem elapsed_toNat (a b : TickCount) : (elapsed a b).toNat = (b.toNat + 65536 - a.toNat) % 65536 := by
  have := a.isLt
  simp only [elapsed, BitVec.toNat_sub]
  congr 1
  omega

theorem zext32_toNat (v : BitVec 16) : (zext32 v).toNat = v.toNat := by
  have := v.isLt
  simp only [zext32, BitVec.toNat_setWidth]
  omega

/-- A multiplier is one of the four of R11. -/
theorem bucket_cases (a b c : BitVec 32) (i : TickCount) :
    (a.toNat < i.toNat ∧ bucket a b c i = 1#16) ∨
    (i.toNat ≤ a.toNat ∧ b.toNat < i.toNat ∧ bucket a b c i = 5#16) ∨
    (i.toNat ≤ a.toNat ∧ i.toNat ≤ b.toNat ∧ c.toNat < i.toNat ∧ bucket a b c i = 20#16) ∨
    (i.toNat ≤ a.toNat ∧ i.toNat ≤ b.toNat ∧ i.toNat ≤ c.toNat ∧ bucket a b c i = 100#16) := by
  unfold bucket
  simp only [BitVec.lt_def, zext32_toNat]
  split_ifs with h1 h2 h3
  · exact .inl ⟨h1, rfl⟩
  · exact .inr (.inl ⟨by omega, h2, rfl⟩)
  · exact .inr (.inr (.inl ⟨by omega, by omega, h3, rfl⟩))
  · exact .inr (.inr (.inr ⟨by omega, by omega, by omega, rfl⟩))

/-- The multiplier at a tick is one of the four of R11, whatever the state. -/
theorem multiplierAt_cases (tick : TickCount) (s : State) :
    multiplierAt tick s = 1#16 ∨ multiplierAt tick s = 5#16 ∨ multiplierAt tick s = 20#16 ∨
      multiplierAt tick s = 100#16 := by
  unfold multiplierAt
  split
  · exact .inl rfl
  · rcases bucket_cases s.ceilSlow s.ceilMedium s.ceilFast (elapsed s.lastTick tick) with h | h | h | h <;> simp [h]

/-- What a SAMPLE can answer. -/
theorem execSample_cases (pins : PinSample) (tick : TickCount) (s : State) :
    (s.ctx = .poll ∧ execSample pins tick s = .next (s.raise .contextViolation)) ∨
    (s.ctx = .isr ∧ s.configured = false ∧ execSample pins tick s = .next (s.raise .notConfigured)) ∨
    (s.ctx = .isr ∧ s.configured = true ∧ ∃ dir, directionOf (process s.dstate s.gran pins).2 = some dir ∧
      execSample pins tick s = .next (sampled (process s.dstate s.gran pins).1 dir tick s)) := by
  obtain ⟨dir, hdir⟩ := directionOf_process s.dstate s.gran pins
  unfold execSample
  cases hc : s.ctx with
  | poll => exact .inl ⟨rfl, by simp [permits]⟩
  | isr =>
    cases hg : s.configured with
    | false => exact .inr (.inl ⟨rfl, rfl, by simp [permits]⟩)
    | true => exact .inr (.inr ⟨rfl, rfl, dir, hdir, by simp [permits, hdir]⟩)

/-- What a CONFIGURE can answer. -/
theorem configureWith_cases (p : Params) (gran : Granularity) (ppr : BitVec 16) (s : State) :
    (s.ctx = .isr ∧ configureWith p gran ppr s = .next (s.raise .contextViolation)) ∨
    (s.ctx = .poll ∧ ppr = 0#16 ∧ configureWith p gran ppr s = .next (s.raise .invalidConfiguration)) ∨
    (s.ctx = .poll ∧ ppr ≠ 0#16 ∧ configureWith p gran ppr s = .next ((s.construct p gran ppr).answer 0#16)) := by
  unfold configureWith
  cases hc : s.ctx with
  | isr => exact .inl ⟨rfl, by simp [permits]⟩
  | poll =>
    by_cases h0 : ppr = 0#16
    · exact .inr (.inl ⟨rfl, h0, by simp [permits, h0]⟩)
    · exact .inr (.inr ⟨rfl, h0, by simp [permits, h0]⟩)

/-- The fields of the state a successful SAMPLE leaves, with v the step value (R180 to R190). -/
theorem sampled_eq (n : BitVec 4) (dir : Direction) (tick : TickCount) (s : State) :
    sampled n dir tick s =
      match dir with
      | .none => { s with dstate := n, stepOut := 0#16, response := some ⟨0#3, 0#16⟩ }
      | .clockwise => { s with
          dstate := n, lastTick := tick, first := false
          stepOut := multiplierAt tick s, response := some ⟨0#3, multiplierAt tick s⟩ }
      | .counterClockwise => { s with
          dstate := n, lastTick := tick, first := false
          stepOut := -multiplierAt tick s, response := some ⟨0#3, -multiplierAt tick s⟩ } := by
  cases dir <;> rfl

end Sys2Proof.Machine
end

