-- ==== Sys2Proof/Laws/PerInstr.lean ====
section
/-! SUPPORT. Laws/PerInstr.lean: statements made per instruction, one lemma per constructor. -/

namespace Sys2Proof.Laws.OpcodeTable

/-- The word the encoder gives an instruction is one its row of spec/opcode_table.json matches (R92, R100). -/
def Statement (i : Instr) : Prop := encode i &&& i.row.mask = i.row.pattern

theorem configure (gran : Granularity) (ppr : BitVec 16) : Statement (.configure gran ppr) :=
  (mask_append (0b0001#4 ++ 0#15 ++ gran.bit) 0xFFFFE#20 ppr).trans (by cases gran <;> rfl)

theorem sample (pins : PinSample) (tick : TickCount) : Statement (.sample pins tick) :=
  (mask_append (0b0010#4 ++ 0#14 ++ pins) (0x3FFFF#18 ++ 0#2) tick).trans
    ((congrArg (· ++ 0#16) (mask_append (0b0010#4 ++ 0#14) 0x3FFFF#18 pins)).trans rfl)

theorem elapsed (prev cur : TickCount) : Statement (.elapsed prev cur) :=
  (mask_append (0b0011#4 ++ prev) (0xF#4 ++ 0#16) cur).trans
    ((congrArg (· ++ 0#16) (mask_append 0b0011#4 0xF#4 prev)).trans rfl)

theorem readStep : Statement .readStep := by unfold Statement; decide

end Sys2Proof.Laws.OpcodeTable
end

