-- ==== Sys2Proof/Laws/Step.lean ====
section
/-! SUPPORT. Laws/Step.lean: what taking an input, failing and a step can do, said once each. -/

namespace Sys2Proof.Machine

open Host (Outcome)

theorem fetch_idle {s : State} (h : s.pending = []) : fetch s = .idle := by
  simp only [fetch, h]

theorem fetch_reset {s : State} {rest} (h : s.pending = .reset :: rest) : fetch s = .reset (s.resetEvent rest) := by
  simp only [fetch, h]

theorem fetch_command {s : State} {c w rest} (h : s.pending = .command c w :: rest) :
    fetch s = .command w (s.take (Ctx.ofBit c) rest) := by
  simp only [fetch, h]

@[simp] theorem Error.code_ne_ok (e : Error) : e.code ≠ okCode := by cases e <;> decide

theorem Error.code_toNat_pos (e : Error) : 1 ≤ e.code.toNat ∧ e.code.toNat ≤ 4 := by cases e <;> decide

/-- A bit of FAULT_LOG after an error: as before, or set because the error's code is one more than its number (R42). -/
theorem getLsbD_logError (log : BitVec 4) (e : Error) {k : Nat} (hk : k < 4) :
    (logError log e).getLsbD k = (log.getLsbD k || decide (e.code.toNat = k + 1)) := by
  cases e <;> interval_cases k <;> simp [logError, Error.code]

/-- Everything a step can do: wait, reset, run the instruction its command decodes to, or fail with IllegalCommand. -/
theorem step_cases (s : State) :
    (s.pending = [] ∧ step s = .next s) ∨
    (∃ rest, s.pending = .reset :: rest ∧ step s = .next (s.resetEvent rest)) ∨
    (∃ c w rest i, s.pending = .command c w :: rest ∧ decode w = .ok i ∧ step s = exec i (s.take (Ctx.ofBit c) rest)) ∨
    (∃ c w rest why, s.pending = .command c w :: rest ∧ decode w = .error why ∧
      step s = .next ((s.take (Ctx.ofBit c) rest).raise .illegalCommand)) := by
  match h : s.pending with
  | [] => exact .inl ⟨rfl, by simp only [step, fetch_idle h, waitForCommand]⟩
  | .reset :: rest => exact .inr (.inl ⟨rest, rfl, by simp only [step, fetch_reset h]⟩)
  | .command c w :: rest =>
    match hd : decode w with
    | .ok i => exact .inr (.inr (.inl ⟨c, w, rest, i, rfl, hd, by simp only [step, fetch_command h, hd]⟩))
    | .error why =>
      exact .inr (.inr (.inr ⟨c, w, rest, why, rfl, hd, by simp only [step, fetch_command h, hd, execIllegal]⟩))

end Sys2Proof.Machine
end

