-- ==== Sys2Proof/Laws/Walks.lean ====
section
/-! SUPPORT. Laws/Walks.lean: the small lemmas of the walks in Safety.lean: what each function does at the end of a walk, and turns. -/

namespace Sys2Proof.Safety

open Sys2Proof.Machine

variable (p : PinSample) (walk more : List (PinSample × TickCount))

@[simp] theorem pinsAfter_nil : pinsAfter p [] = p := rfl
@[simp] theorem pinsAfter_cons (x : PinSample × TickCount) : pinsAfter p (x :: more) = pinsAfter x.1 more := rfl
@[simp] theorem edgesIn_nil : edgesIn p [] = 0 := rfl
@[simp] theorem netEdges_nil : netEdges p [] = 0 := rfl
@[simp] theorem cleanWalk_nil : cleanWalk p [] = true := rfl

@[simp] theorem pinsAfter_append : pinsAfter p (walk ++ more) = pinsAfter (pinsAfter p walk) more := by
  induction walk generalizing p with
  | nil => rfl
  | cons x walk ih => exact ih x.1

@[simp] theorem netEdges_append : netEdges p (walk ++ more) = netEdges p walk + netEdges (pinsAfter p walk) more := by
  induction walk generalizing p with
  | nil => simp
  | cons x walk ih => simp [netEdges, ih, add_assoc]

@[simp] theorem cleanWalk_append : cleanWalk p (walk ++ more) = (cleanWalk p walk && cleanWalk (pinsAfter p walk) more) := by
  induction walk generalizing p with
  | nil => simp
  | cons x walk ih => simp [cleanWalk, ih, Bool.and_assoc]

/-- While no sample is 00 the pins are at 00 only before the first one. -/
theorem pinsAfter_eq_zero {body : List (PinSample × TickCount)} (h : ∀ x ∈ body, x.1 ≠ 0b00#2)
    (h0 : pinsAfter 0b00#2 body = 0b00#2) : body = [] := by
  rcases List.eq_nil_or_concat body with rfl | ⟨init, x, rfl⟩
  · rfl
  · rw [List.concat_eq_append, pinsAfter_append] at h0
    exact absurd h0 (h x (by simp))

/-- What a walk does after the pins are back at 00 is a walk from rest again. -/
theorem NeverPassesTheSequence.drop {pre walk : List (PinSample × TickCount)} (h : NeverPassesTheSequence (pre ++ walk))
    (h0 : pinsAfter 0b00#2 pre = 0b00#2) : NeverPassesTheSequence walk := by
  intro pre' turn post hw hp
  exact h (pre ++ pre') turn post (by simp [hw]) (by rw [pinsAfter_append, h0, hp])

/-- A single turn contains no other turn. -/
theorem IsTurn.neverPasses {walk : List (PinSample × TickCount)} (hw : IsTurn walk) (hn : ¬PassesTheSequence walk) :
    NeverPassesTheSequence walk := by
  obtain ⟨body, tick, rfl, hb⟩ := hw
  rintro pre turn post hw hp ⟨body', tick', rfl, hb'⟩
  have hpost : post = [] := by
    rcases List.eq_nil_or_concat post with rfl | ⟨init, x, rfl⟩
    · rfl
    · simp only [List.concat_eq_append, ← List.append_assoc] at hw
      have := (List.append_inj' hw rfl).1
      exact absurd rfl (hb (0b00#2, tick') (by rw [this]; simp))
  subst hpost
  simp only [List.append_nil, ← List.append_assoc] at hw
  have hbody := (List.append_inj' hw rfl).1
  have hpre : pre = [] := pinsAfter_eq_zero (fun x hx => hb x (by rw [hbody]; simp [hx])) hp
  subst hpre
  simp only [List.nil_append] at hw
  rwa [← hw]

end Sys2Proof.Safety
end

