-- ==== Sys2Proof/Tests/Slice0.lean ====
section
/-! SUPPORT. Tests/Slice0.lean: words and single steps of spec/95_test_vectors.md, and a witness for the hypotheses of each statement.
Expected values are the spec's; its parameters there are the illustrative defaults of R10. -/

namespace Sys2Proof.Tests

open Sys2Proof.Machine Sys2Proof.Safety

/-! ### Helpers -/

/-- The illustrative defaults of R10. -/
def defaults : Params := ⟨20, 5000, 2000, 1000, 500⟩

/-- A configured block (PPR 20, the illustrative defaults) that takes commands from ISR. -/
def ready (g : Granularity) (d : BitVec 4) (first : Bool) (lastTick : TickCount) : State :=
  { State.reset with
    configured := true, gran := g, ppr := 20#16
    ceilSlow := 5000#32, ceilMedium := 2000#32, ceilFast := 1000#32, ceilVfast := 500#32
    dstate := d, first := first, lastTick := lastTick, ctx := .isr }

/-- A state with one command pending. -/
def given (c : Ctx) (w : CommandWord) (s : State) : State := { s with pending := [.command c.bit w] }

def nextOf (o : Host.Outcome State Fault Refusal) : Option State :=
  match o with
  | .next s => some s
  | .fault _ => none
  | .refused _ => none

/-- STATUS and RESULT of the response in the next state. -/
def answerOf (o : Host.Outcome State Fault Refusal) : Option Response := (nextOf o).bind (·.response)

/-! ### Decoding: words written out bit by bit from R92 -/

theorem test_decode_configure :
    decode 0b000100000000000000010000000000101000#36 = .ok (.configure .half 40#16) := by decide
theorem test_decode_sample :
    decode 0b001000000000000000100010001100101000#36 = .ok (.sample 0b10#2 9000#16) := by decide
theorem test_decode_elapsed :
    decode 0b001111111111111110100000000000001010#36 = .ok (.elapsed 65530#16 10#16) := by decide
theorem test_decode_readStep :
    decode 0b010000000000000000000000000000000000#36 = .ok .readStep := by decide
theorem test_decode_reserved_opcode :
    decode 0xFFFFFFFFF#36 = .error .reservedOpcode ∧ decode 0x000000000#36 = .error .reservedOpcode := by decide
theorem test_decode_table_word :
    decodeTableWord 40 0x200010064 = some (.sample 0b01#2 100#16) ∧ decodeTableWord 40 0xF200010064 = none := by decide

/-- R103's examples: `isr: SAMPLE 01, 100` has CTX = 1 and `poll: CONFIGURE ppr=20, gran=FULL` has CTX = 0. -/
theorem test_ctx_bit :
    (AsmLine.mk .isr (.sample 0b01#2 100)).assemble = some [.command 1#1 0x200010064#36] ∧
    (AsmLine.mk .poll (.configure 20 .full)).assemble = some [.command 0#1 0x100000014#36] ∧
    Ctx.ofBit 1#1 = .isr ∧ Ctx.ofBit 0#1 = .poll := by decide

/-! ### Ill-formed words and lines are refused -/

theorem test_wf_opcode : WellFormed.legalOpcode 0x500000000#36 = false := by decide
theorem test_wf_cfg_reserved : WellFormed.cfgReservedClear 0x100020014#36 = false := by decide
theorem test_wf_smp_reserved : WellFormed.smpReservedClear 0x200040001#36 = false := by decide
theorem test_wf_rd_reserved : WellFormed.rdReservedClear 0x400000001#36 = false := by decide
theorem test_wf_legal : WellFormed.legalWord 0x2000300C8#36 = true ∧ WellFormed.legalWord 0x240000258#36 = false := by decide
theorem test_asm_ill_formed :
    (AsmLine.mk .poll (.configure 65536 .full)).wf = false ∧ (AsmLine.mk .isr (.sample 0#2 65536)).wf = false ∧
    (AsmLine.mk .poll (.elapsed 65536 0)).wf = false ∧ (AsmLine.mk .poll (.elapsed 0 65536)).wf = false ∧
    (AsmLine.mk .poll (.word (2 ^ 36))).wf = false ∧ (AsmLine.mk .poll (.cwcycle 0)).wf = false ∧
    (AsmLine.mk .isr (.ccwcycle 65536)).wf = false ∧ (AsmLine.mk .poll (.rest 0)).wf = false := by decide

/-! ### Single steps -/

/-- Section 2.4: `CONFIGURE ppr=7, gran=HALF`. -/
theorem test_configure_ceilings :
    (nextOf (configureWith defaults .half 7#16 State.reset)).map
      (fun t => (t.ceilSlow, t.ceilMedium, t.ceilFast, t.ceilVfast)) =
      some (14285#32, 5714#32, 2857#32, 1428#32) := by decide

/-- Section 2.4: PPR = 0 from ISR; ContextViolation outranks InvalidConfiguration. -/
theorem test_configure_from_isr :
    answerOf (execConfigure .full 0#16 { State.reset with ctx := .isr }) = some ⟨3#3, 0#16⟩ := by decide

/-- Program P2, step 4: the interval 936 wraps, and the detent steps by 20. -/
theorem test_sample_wrapped_interval :
    answerOf (execSample 0b00#2 400#16
      { ready .half CW3 false 65000#16 with ceilSlow := 2500#32, ceilMedium := 1000#32, ceilFast := 500#32 }) =
      some ⟨0#3, 0x0014#16⟩ := by decide

/-- Program P1, step 17: counter-clockwise after 7300 ticks. -/
theorem test_sample_counter_clockwise :
    answerOf (execSample 0b00#2 9000#16 (ready .full CCW3 false 1700#16)) = some ⟨0#3, 0xFFFF#16⟩ := by decide

/-- Source example SE5. -/
theorem test_elapsed_wraps : answerOf (execElapsed 65530#16 10#16 State.reset) = some ⟨0#3, 16#16⟩ := by decide

/-- Section 2.1: CUR one behind PREV. -/
theorem test_elapsed_backwards : answerOf (execElapsed 1#16 0#16 State.reset) = some ⟨0#3, 65535#16⟩ := by decide

/-- Section 2.5: after a SAMPLE that returned -20. -/
theorem test_readStep_negative :
    answerOf (execReadStep { State.reset with stepOut := 0xFFEC#16 }) = some ⟨0#3, 0xFFEC#16⟩ := by decide

/-- Program P3, step 16: reserved bit 30 of a SAMPLE. -/
theorem test_illegal_word :
    answerOf (step (given .isr 0x240000258#36 (ready .full START false 500#16))) = some ⟨4#3, 0#16⟩ := by decide

/-- R104 with R103's SAMPLE words of program P1, steps 2 to 5. -/
theorem test_asm_cwcycle :
    (AsmLine.mk .isr (.cwcycle 100)).assemble =
      some [.command 1#1 0x200010064#36, .command 1#1 0x200030064#36, .command 1#1 0x200020064#36,
        .command 1#1 0x200000064#36] := by decide

/-! ### Witnesses: a state and operands that meet each statement's hypotheses -/

theorem witness_EncodeInvertsDecode : decode 0x3FFFFFFFF#36 = .ok (.elapsed 65535#16 65535#16) := by decide

theorem witness_AssemblerLinesSpellTheirCommands :
    (AsmLine.mk .poll (.configure 65535 .half)).wf = true ∧ (AsmLine.mk .isr (.sample 0b11#2 65535)).wf = true ∧
    (AsmLine.mk .poll (.elapsed 65535 65535)).wf = true ∧ (AsmLine.mk .poll .readStep).wf = true ∧
    (AsmLine.mk .poll (.word (2 ^ 36 - 1))).wf = true ∧ (AsmLine.mk .isr (.cwcycle 65535)).wf = true ∧
    (AsmLine.mk .isr (.ccwcycle 65535)).wf = true ∧ (AsmLine.mk .isr (.rest 65535)).wf = true := by decide

theorem witness_StepRunsTheDecodedCommand :
    (given .isr 0x200010064#36 State.reset).pending = .command 1#1 0x200010064#36 :: [] ∧
    decode 0x200010064#36 = .ok (.sample 0b01#2 100#16) := by decide

theorem witness_IllegalWordsFailAndNoOthers :
    (given .poll 0x500000000#36 State.reset).pending = .command 0#1 0x500000000#36 :: [] ∧
    WellFormed.legalWord 0x500000000#36 = false ∧
    (given .poll 0x4FFFFFFFF#36 State.reset).pending = .command 0#1 0x4FFFFFFFF#36 :: [] ∧
    WellFormed.legalWord 0x4FFFFFFFF#36 = false ∧
    (given .poll 0x400000000#36 State.reset).pending = .command 0#1 0x400000000#36 :: [] ∧
    WellFormed.legalWord 0x400000000#36 = true := by decide

theorem witness_EveryCommandIsAnsweredAndAdvancesTheIndex :
    (given .poll 0x000000000#36 State.reset).pending = .command 0#1 0x000000000#36 :: [] := by decide

theorem witness_NoPendingInputChangesNothing : State.reset.pending = [] := by decide

theorem witness_ResetGivesEveryRegisterItsResetValue :
    ({ ready .half CW2 false 9#16 with pending := [.reset] } : State).pending = .reset :: [] := by decide

theorem witness_ErrorsArePreciseAndNoStepStops :
    (given .isr 0x200010001#36 State.reset).pending = .command 1#1 0x200010001#36 :: [] ∧
    answerOf (step (given .isr 0x200010001#36 State.reset)) = some ⟨2#3, 0#16⟩ := by decide

/-- One command per clause of the priority: illegal, wrong context twice, not configured, PPR = 0, and none. -/
theorem witness_StatusFollowsThePriority :
    answerOf (step (given .isr 0x180000000#36 State.reset)) = some ⟨4#3, 0#16⟩ ∧
    answerOf (step (given .isr 0x100000000#36 State.reset)) = some ⟨3#3, 0#16⟩ ∧
    answerOf (step (given .poll 0x200010001#36 State.reset)) = some ⟨3#3, 0#16⟩ ∧
    answerOf (step (given .isr 0x200010001#36 State.reset)) = some ⟨2#3, 0#16⟩ ∧
    answerOf (step (given .poll 0x100010000#36 State.reset)) = some ⟨1#3, 0#16⟩ ∧
    answerOf (step (given .isr 0x400000000#36 State.reset)) = some ⟨0#3, 0#16⟩ := by decide

theorem witness_ContextsMayIssueTheirCommandsOnly :
    State.reset.ctx = .poll ∧ (ready .full START true 0#16).ctx = .isr := by decide

theorem witness_SampleBeforeConstructionFails :
    ({ State.reset with ctx := .isr } : State).ctx = .isr ∧
    ({ State.reset with ctx := .isr } : State).configured = false := by decide

theorem witness_OnlyZeroPprIsAnInvalidConfiguration :
    State.reset.ctx = .poll ∧ answerOf (exec (.configure .half 0#16) State.reset) = some ⟨1#3, 0#16⟩ := by decide

/-- Bit 0 and bit 3, the ends of the range of k, and the reset clause. -/
theorem witness_FaultLogIsStickyAndUnread :
    (given .poll 0x100000000#36 State.reset).pending = .command 0#1 0x100000000#36 :: [] ∧
    (nextOf (step (given .poll 0x100000000#36 State.reset))).map (·.faultLog) = some 0b0001#4 ∧
    (given .poll 0x100020014#36 State.reset).pending = .command 0#1 0x100020014#36 :: [] ∧
    (nextOf (step (given .poll 0x100020014#36 State.reset))).map (·.faultLog) = some 0b1000#4 ∧
    ({ State.reset with faultLog := 15#4, pending := [.reset] } : State).pending = .reset :: [] := by decide

/-- The ends of the range of PPR, on an unconfigured block and on a configured one. -/
theorem witness_ConfigureInitialisesTheBlock :
    State.reset.ctx = .poll ∧ 1#16 ≠ 0#16 ∧
    ({ ready .half CW2 false 9#16 with ctx := .poll } : State).ctx = .poll ∧ 65535#16 ≠ 0#16 := by decide

theorem witness_CeilingsAreExactAndOrdered : State.reset.ctx = .poll ∧ 1#16 ≠ 0#16 ∧ 65535#16 ≠ 0#16 := by decide

theorem witness_StoredCeilingsDecideAsTheExactThresholds :
    State.reset.ctx = .poll ∧ 1#16 ≠ 0#16 ∧ 65535#16 ≠ 0#16 := by decide

theorem witness_DoublingPprHalvesEveryCeiling :
    State.reset.ctx = .poll ∧ 1#16 ≠ 0#16 ∧ (2#16).toNat = 2 * (1#16).toNat ∧
    32767#16 ≠ 0#16 ∧ (65534#16).toNat = 2 * (32767#16).toNat := by decide

theorem witness_BaselineExamplesForceTheBounds :
    1 ≤ defaults.refPpr ∧ defaults.refPpr ≤ 65535 ∧ defaults.bSlow ≤ 65535 ∧ defaults.bMedium ≤ 65535 ∧
    defaults.bFast ≤ 65535 ∧ State.reset.ctx = .poll := by decide

/-- A block as CONFIGURE at baseline PPR leaves it, one sample before its second detent. -/
def atBaseline : State :=
  { State.reset.construct Config.params .full (BitVec.ofNat 16 Config.params.refPpr) with
    ctx := .isr, first := false, dstate := CW3 }

theorem witness_BaselineIntervalsStepAsTheSourceSays :
    State.reset.ctx = .poll ∧
    atBaseline.ceilSlow = scaledCeiling Config.params Config.params.bSlow (BitVec.ofNat 16 Config.params.refPpr) ∧
    atBaseline.ceilMedium = scaledCeiling Config.params Config.params.bMedium (BitVec.ofNat 16 Config.params.refPpr) ∧
    atBaseline.ceilFast = scaledCeiling Config.params Config.params.bFast (BitVec.ofNat 16 Config.params.refPpr) ∧
    atBaseline.ctx = .isr ∧ atBaseline.configured = true ∧ atBaseline.first = false ∧
    (process atBaseline.dstate atBaseline.gran 0b00#2).2 ≠ 0b00#2 ∧
    9000#16 - atBaseline.lastTick = 9000#16 ∧ 3000#16 - atBaseline.lastTick = 3000#16 ∧
    1500#16 - atBaseline.lastTick = 1500#16 ∧ 500#16 - atBaseline.lastTick = 500#16 :=
  ⟨rfl, rfl, rfl, rfl, rfl, rfl, rfl, by decide, by decide, by decide, by decide, by decide⟩

theorem witness_SampleNeverFailsOnceConfigured :
    (ready .full START true 0#16).ctx = .isr ∧ (ready .full START true 0#16).configured = true := by decide

/-- The two marked transitions of full-step. -/
theorem witness_FullStepMarksTwoTransitions :
    (ready .full CW3 false 0#16).ctx = .isr ∧ (ready .full CW3 false 0#16).configured = true ∧
    (ready .full CW3 false 0#16).gran = .full ∧ (ready .full CCW3 false 0#16).dstate = CCW3 := by decide

theorem witness_HalfStepMarksSixTransitions :
    (ready .half CCWR false 0#16).ctx = .isr ∧ (ready .half CCWR false 0#16).configured = true ∧
    (ready .half CCWR false 0#16).gran = .half ∧ (ready .half CWR false 0#16).dstate = CWR := by decide

theorem witness_StateAgreesWithTheLastSample :
    (ready .half RESYNC false 0#16).ctx = .isr ∧ (ready .half RESYNC false 0#16).configured = true := by decide

theorem witness_CleanFullStepCyclesStepOnce :
    (ready .full START true 0#16).ctx = .isr ∧ (ready .full START true 0#16).configured = true ∧
    (ready .full START true 0#16).gran = .full ∧ (ready .full START true 0#16).dstate = START := by decide

/-- A turn back after its third edge. -/
def turnBack : List (PinSample × TickCount) :=
  [(0b01#2, 1#16), (0b11#2, 2#16), (0b10#2, 3#16), (0b11#2, 4#16), (0b01#2, 5#16), (0b00#2, 6#16)]

/-- Both clauses: a state, and for the second a walk that is one turn, of no net edge. -/
theorem witness_UnfinishedTurnsNeverStep :
    (ready .full START false 9#16).ctx = .isr ∧ (ready .full START false 9#16).configured = true ∧
    (ready .full START false 9#16).dstate = START ∧ (ready .full START false 9#16).gran = .full ∧
    NeverPassesTheSequence turnBack :=
  ⟨rfl, rfl, rfl, rfl, IsTurn.neverPasses ⟨turnBack.dropLast, 6#16, rfl, by simp [turnBack]⟩
    (by rintro ⟨_, h | h⟩ <;> revert h <;> decide)⟩

theorem witness_SampleWithoutDetentStepsZero : (process START .full 0b11#2).2 = 0b00#2 := by decide

/-- Both clauses of FirstDetentStepsByOne and of LaterDetentsStepByTheirBucket: one sample before a detent each way. -/
theorem witness_FirstDetentStepsByOne :
    (ready .full CW3 true 0#16).first = true ∧ (process CW3 .full 0b00#2).2 = 0b01#2 ∧
    (process CCW3 .full 0b00#2).2 = 0b10#2 := by decide

/-- The four clauses at the ceilings 5000, 2000 and 1000, each at the two intervals that meet there (section 2.3), and at interval 0;
a clause's result is that interval's, so no interval falls under two of them. -/
theorem witness_LaterDetentsStepByTheirBucket :
    [5001#16, 5000#16, 2001#16, 2000#16, 1001#16, 1000#16, 0#16].map
      (fun tick => answerOf (exec (.sample 0b00#2 tick) (ready .full CW3 false 0#16))) =
    [some ⟨0#3, 1#16⟩, some ⟨0#3, 5#16⟩, some ⟨0#3, 5#16⟩, some ⟨0#3, 20#16⟩, some ⟨0#3, 20#16⟩, some ⟨0#3, 100#16⟩,
      some ⟨0#3, 100#16⟩] := by decide

/-- One sample for each clause of BouncesAndJumpsNeverStep: repeated, jump to 00, jump elsewhere, the three edges back, RESYNC. -/
theorem witness_BouncesAndJumpsNeverStep :
    combination CW2 = some 0b11#2 ∧
    (channelA 0b11#2 ≠ channelA 0b00#2 ∧ channelB 0b11#2 ≠ channelB 0b00#2) ∧
    combination CW3 = some 0b10#2 ∧ (channelA 0b10#2 ≠ channelA 0b01#2 ∧ channelB 0b10#2 ≠ channelB 0b01#2) ∧
    (ready .half CCW1 false 0#16).dstate = CCW1 ∧ (ready .half CWR false 0#16).dstate = CWR ∧
    (ready .half CCWR false 0#16).dstate = CCWR ∧ (ready .half RESYNC false 0#16).dstate = RESYNC := by decide

theorem witness_UnusedStateCodesNeverStep :
    10 ≤ (ready .full 10#4 false 0#16).dstate.toNat ∧ 10 ≤ (ready .full 15#4 false 0#16).dstate.toNat ∧
    (ready .full RESYNC false 0#16).dstate.toNat ≤ 9 := by decide

/-- An emission in each granularity, each followed by repeated samples whose edges are one below the bound. -/
theorem witness_EmissionsAreApart :
    (nextOf (exec (.sample 0b00#2 7#16) (ready .full CW3 false 0#16))).map (·.stepOut) = some 100#16 ∧
    edgesIn 0b00#2 [(0b01#2, 8#16), (0b01#2, 9#16), (0b11#2, 10#16), (0b10#2, 11#16), (0b10#2, 12#16)] = 3 ∧
    (nextOf (exec (.sample 0b11#2 7#16) (ready .half CCW1 false 0#16))).map (·.stepOut) = some (-100#16) ∧
    edgesIn 0b11#2 [(0b11#2, 8#16), (0b01#2, 9#16), (0b01#2, 10#16)] = 1 := by decide

/-- A clean walk that turns at 11 and ends in START. -/
theorem witness_NetCountOnCleanWalks :
    cleanWalk 0b00#2 [(0b01#2, 1#16), (0b11#2, 2#16), (0b01#2, 3#16), (0b00#2, 4#16)] = true ∧
    (sampleRun (ready .half START false 0#16)
      [(0b01#2, 1#16), (0b11#2, 2#16), (0b01#2, 3#16), (0b00#2, 4#16)]).map (·.1.dstate) = some START :=
  ⟨by decide, rfl⟩

theorem witness_FirstSampleIsReadAsAMoveFromRest :
    ∀ x ∈ [((0b10#2 : PinSample), (1#16 : TickCount)), (0b11#2, 2#16)], x.1 ≠ 0b00#2 := by simp

theorem witness_FasterDetentsNeverStepLess :
    (ready .full CW3 false 65000#16).first = false ∧ (process CW3 .full 0b00#2).2 ≠ 0b00#2 ∧
    (400#16 - (ready .full CW3 false 65000#16).lastTick).toNat ≤
      (9000#16 - (ready .full CW3 false 65000#16).lastTick).toNat := by decide

/-- Both clauses at their boundaries: the formula gives a slow ceiling of exactly 65535, and of 0 for the least PPR that does. -/
theorem witness_CeilingsAreNotClamped :
    State.reset.ctx = .poll ∧ (⟨15, 4369, 2000, 1000, 500⟩ : Params).Admissible ∧ 1#16 ≠ 0#16 ∧ 4369 * 15 / (1#16).toNat = 65535 ∧
    (⟨14, 4369, 2000, 1000, 500⟩ : Params).Admissible ∧ 61167#16 ≠ 0#16 ∧ 4369 * 14 / (61166#16).toNat = 1 ∧
    4369 * 14 / (61167#16).toNat = 0 := by
  exact ⟨rfl, by decide, by decide, rfl, by decide, by decide, rfl, rfl⟩

/-- The hypotheses on the later SAMPLE: the block such a CONFIGURE leaves, one sample before its second detent. -/
theorem witness_CeilingsAreNotClamped_sample :
    let t := State.reset.construct ⟨15, 4369, 2000, 1000, 500⟩ .full 1#16
    let u := { t with ctx := .isr, first := false, dstate := CW3 }
    u.ceilSlow = t.ceilSlow ∧ u.ceilMedium = t.ceilMedium ∧ u.ceilFast = t.ceilFast ∧ u.ctx = .isr ∧
    u.configured = true ∧ u.first = false ∧ (process u.dstate u.gran 0b00#2).2 ≠ 0b00#2 := by decide

theorem witness_SampleScalesTheIntervalElapsedAnswers :
    (ready .full CW3 false 65530#16).ctx = .isr ∧ (ready .full CW3 false 65530#16).configured = true ∧
    (ready .full CW3 false 65530#16).first = false ∧ (process CW3 .full 0b00#2).2 ≠ 0b00#2 := by decide

/-- One ELAPSED between a published value and the READ_STEP that returns it. -/
def betweenReads : State :=
  { ready .full START false 0#16 with
    stepOut := 20#16, pending := [.command 0#1 0x300000000#36, .command 0#1 0x400000000#36] }

theorem witness_ReadStepAnswersTheLastPublishedValue :
    (∃ t, run 1 betweenReads = .next t ∧ t.pending = .command 0#1 0x400000000#36 :: []) ∧
    ∀ j u, j < 1 → run j betweenReads = .next u → ¬TakesReset u ∧ ¬TakesConfigure u ∧ ¬TakesSample u := by
  refine ⟨⟨_, rfl, rfl⟩, ?_⟩
  intro j u hj hu
  have h0 : j = 0 := by omega
  subst h0
  cases hu
  have hd : decode 0x300000000#36 = .ok (.elapsed 0#16 0#16) := by decide
  refine ⟨fun h => (by cases h), ?_, ?_⟩
  · rintro ⟨w, g, p, hw, hdw, _⟩
    cases hw
    rw [hd] at hdw
    cases hdw
  · rintro ⟨_, w, p, t, hw, _⟩
    cases hw

theorem witness_RepeatedReadsAnswerTheSame :
    (process START .full 0b00#2).2 = 0b00#2 ∧
    (nextOf (exec (.sample 0b00#2 3#16) (ready .full START false 0#16))).map (·.dstate) = some START ∧
    (nextOf (exec .readStep State.reset)).isSome = true := by decide

theorem witness_RegistersAreWrittenByTheirCommandsOnly :
    (∃ t, step (given .poll 0x400000000#36 State.reset) = .next t) ∧ ¬TakesReset (given .poll 0x400000000#36 State.reset) ∧
    TakesSample (given .isr 0x200010064#36 (ready .full START false 0#16)) ∧
    TakesConfigure (given .poll 0x10000FFFF#36 State.reset) := by
  refine ⟨⟨_, rfl⟩, fun h => (by cases h), ⟨rfl, _, 0b01#2, 100#16, rfl, by decide⟩, ⟨_, .full, 65535#16, rfl, by decide, by decide⟩⟩

theorem witness_UnreadRegistersNeverShow :
    SameButUnread (ready .full CW3 false 0#16)
      { ready .full CW3 false 0#16 with ppr := 7#16, ceilVfast := 0#32, faultLog := 15#4 } ∧
    run 0 (ready .full CW3 false 0#16) = .next (ready .full CW3 false 0#16) := ⟨rfl, rfl⟩

theorem witness_LastTickNeverShowsBeforeTheFirstDetent :
    (ready .full CW3 true 0#16).first = true ∧
    ready .full CW3 true 9#16 = { ready .full CW3 true 0#16 with lastTick := 9#16 } := ⟨rfl, rfl⟩

theorem witness_OnlyStepOutShowsBeforeConstruction :
    SameInterface State.reset { State.reset with dstate := CW3, lastTick := 9#16, first := false, ceilSlow := 7#32 } :=
  ⟨rfl, rfl, rfl, rfl, rfl, rfl, fun h => by cases h⟩

/-- A configured block with a SAMPLE pending meets the invariant. -/
theorem witness_EveryStepKeepsTheInvariant :
    Inv (given .isr 0x200010064#36 ((State.reset.construct Config.params .half 65535#16).answer 0#16)) := by
  have ha := Config.params_admissible
  obtain ⟨-, hs, hm, hf, hv⟩ := ha
  refine ⟨by decide, by decide, fun _ => ⟨rfl, rfl⟩, fun h => (by cases h), fun _ => ⟨by decide, ?_, ?_, ?_, ?_⟩, ?_⟩
  · exact scaledCeiling_toNat Config.params_admissible (by omega) _
  · exact scaledCeiling_toNat Config.params_admissible (by omega) _
  · exact scaledCeiling_toNat Config.params_admissible (by omega) _
  · exact scaledCeiling_toNat Config.params_admissible (by omega) _
  · intro r hr
    cases hr
    exact ⟨by decide, fun h => absurd rfl h⟩

end Sys2Proof.Tests
end

section
/-! PROOFS. The state: every command is answered, and what FAULT_LOG keeps (spec/10_state.md R31, R42). -/

namespace Sys2Proof.Machine

/-! ### CONFIGURE and SAMPLE, an equation per case -/

section
variable {s : State} {gran : Granularity} {ppr : BitVec 16} {pins : PinSample} {tick : TickCount}

theorem exec_configure_of_isr (hc : s.ctx = .isr) :
    exec (.configure gran ppr) s = .next (s.raise .contextViolation) := by
  simp [exec, execConfigure, configureWith, permits, hc]

theorem exec_configure_zero (hc : s.ctx = .poll) :
    exec (.configure gran 0#16) s = .next (s.raise .invalidConfiguration) := by
  simp [exec, execConfigure, configureWith, permits, hc]

theorem exec_configure_of_ne_zero (hc : s.ctx = .poll) (hp : ppr ≠ 0#16) :
    exec (.configure gran ppr) s = .next ((s.construct Config.params gran ppr).answer 0#16) := by
  simp [exec, execConfigure, configureWith, permits, hc, hp]

theorem exec_sample_of_poll (hc : s.ctx = .poll) :
    exec (.sample pins tick) s = .next (s.raise .contextViolation) := by
  simp [exec, execSample, permits, hc]

theorem exec_sample_of_not_configured (hc : s.ctx = .isr) (hg : s.configured = false) :
    exec (.sample pins tick) s = .next (s.raise .notConfigured) := by
  simp [exec, execSample, permits, hc, hg]

theorem exec_sample_of_configured (hc : s.ctx = .isr) (hg : s.configured = true) {dir : Direction}
    (hd : directionOf (process s.dstate s.gran pins).2 = some dir) :
    exec (.sample pins tick) s = .next (sampled (process s.dstate s.gran pins).1 dir tick s) := by
  simp [exec, execSample, permits, hc, hg, hd]

end

/-! ### A step, an equation per input -/

section
variable {s : State} {c : BitVec 1} {w : CommandWord} {rest : List Input}

theorem step_of_idle (h : s.pending = []) : step s = .next s := by
  simp only [step, fetch_idle h, waitForCommand]

theorem step_of_reset (h : s.pending = .reset :: rest) : step s = .next (s.resetEvent rest) := by
  simp only [step, fetch_reset h]

theorem step_of_decode_ok (h : s.pending = .command c w :: rest) {i : Instr} (hd : decode w = .ok i) :
    step s = exec i (s.take (Ctx.ofBit c) rest) := by
  simp only [step, fetch_command h, hd]

theorem step_of_decode_error (h : s.pending = .command c w :: rest) {why : Reject} (hd : decode w = .error why) :
    step s = .next ((s.take (Ctx.ofBit c) rest).raise .illegalCommand) := by
  simp only [step, fetch_command h, hd, execIllegal]

end

/-! ### What a success leaves at the interface -/

/-- From `s` a command has succeeded and left `t`: it is answered OK, FAULT_LOG stands and no other input was taken (R42, R90, R97). -/
structure Succeeded (s t : State) : Prop where
  answered : ∃ v, t.response = some ⟨okCode, v⟩
  faultLog : t.faultLog = s.faultLog
  ctx : t.ctx = s.ctx
  pending : t.pending = s.pending
  index : t.index = s.index

theorem succeeded_answer (v : Result) (s : State) : Succeeded s (s.answer v) :=
  ⟨⟨v, rfl⟩, rfl, rfl, rfl, rfl⟩

theorem succeeded_construct_answer (p : Params) (gran : Granularity) (ppr : BitVec 16) (v : Result) (s : State) :
    Succeeded s ((s.construct p gran ppr).answer v) :=
  ⟨⟨v, rfl⟩, rfl, rfl, rfl, rfl⟩

theorem succeeded_sampled (n : BitVec 4) (dir : Direction) (tick : TickCount) (s : State) :
    Succeeded s (sampled n dir tick s) := by
  cases dir <;> exact ⟨⟨_, rfl⟩, rfl, rfl, rfl, rfl⟩

/-! ### FAULT_LOG is written and never read -/

/-- The state with another value in FAULT_LOG. -/
def State.setFaultLog (log : BitVec 4) (s : State) : State := { s with faultLog := log }

theorem State.setFaultLog_eq_self {s : State} {log : BitVec 4} (h : s.faultLog = log) : s.setFaultLog log = s := by
  subst h
  rfl

/-- A SAMPLE carries FAULT_LOG along. -/
theorem sampled_setFaultLog (n : BitVec 4) (dir : Direction) (tick : TickCount) (log : BitVec 4) (s : State) :
    sampled n dir tick (s.setFaultLog log) = (sampled n dir tick s).setFaultLog log := by
  cases dir <;> rfl

/-- An instruction fails with one error, or succeeds and leaves one state, whatever FAULT_LOG holds (R42). -/
theorem exec_setFaultLog_cases (i : Instr) (s : State) :
    (∃ e, ∀ log, exec i (s.setFaultLog log) = .next ((s.setFaultLog log).raise e)) ∨
    (∃ t, Succeeded s t ∧ ∀ log, exec i (s.setFaultLog log) = .next (t.setFaultLog log)) := by
  cases i with
  | configure gran ppr =>
    cases hc : s.ctx with
    | isr => exact .inl ⟨_, fun _ => exec_configure_of_isr hc⟩
    | poll =>
      by_cases hp : ppr = 0#16
      · subst hp
        exact .inl ⟨_, fun _ => exec_configure_zero hc⟩
      · exact .inr ⟨_, succeeded_construct_answer .., fun _ => exec_configure_of_ne_zero hc hp⟩
  | sample pins tick =>
    cases hc : s.ctx with
    | poll => exact .inl ⟨_, fun _ => exec_sample_of_poll hc⟩
    | isr =>
      cases hg : s.configured with
      | false => exact .inl ⟨_, fun _ => exec_sample_of_not_configured hc hg⟩
      | true =>
        obtain ⟨dir, hd⟩ := directionOf_process s.dstate s.gran pins
        refine .inr ⟨_, succeeded_sampled (process s.dstate s.gran pins).1 dir tick s, fun log => ?_⟩
        rw [← sampled_setFaultLog]
        exact exec_sample_of_configured (s := s.setFaultLog log) hc hg hd
  | elapsed prev cur => exact .inr ⟨_, succeeded_answer (elapsed prev cur) s, fun _ => rfl⟩
  | readStep => exact .inr ⟨_, succeeded_answer s.stepOut s, fun _ => rfl⟩

/-- A step that takes a command, legal or not, fails with one error or succeeds and leaves one state, whatever FAULT_LOG holds. -/
theorem step_setFaultLog_cases {s : State} {c w rest} (h : s.pending = .command c w :: rest) :
    (∃ e, ∀ log, step (s.setFaultLog log) = .next (((s.take (Ctx.ofBit c) rest).setFaultLog log).raise e)) ∨
    (∃ t, Succeeded (s.take (Ctx.ofBit c) rest) t ∧ ∀ log, step (s.setFaultLog log) = .next (t.setFaultLog log)) := by
  cases hd : decode w with
  | error why => exact .inl ⟨_, fun log => step_of_decode_error (s := s.setFaultLog log) h hd⟩
  | ok i =>
    have hs (log : BitVec 4) := step_of_decode_ok (s := s.setFaultLog log) h hd
    simp only [hs]
    exact exec_setFaultLog_cases i (s.take (Ctx.ofBit c) rest)

/-- What a step that takes a command can do: fail with an error, or succeed. -/
theorem step_command_cases {s : State} {c w rest} (h : s.pending = .command c w :: rest) :
    (∃ e, step s = .next ((s.take (Ctx.ofBit c) rest).raise e)) ∨
    (∃ t, Succeeded (s.take (Ctx.ofBit c) rest) t ∧ step s = .next t) := by
  rcases step_setFaultLog_cases h with ⟨e, hs⟩ | ⟨t, ht, hs⟩
  · exact .inl ⟨e, hs s.faultLog⟩
  · refine .inr ⟨t, ht, ?_⟩
    rw [← State.setFaultLog_eq_self ht.faultLog]
    exact hs s.faultLog

/-- A command sets the FAULT_LOG bit of the error it answers with, and no other (R42). -/
theorem getLsbD_faultLog_of_step {s t : State} {c w rest r} (h : s.pending = .command c w :: rest)
    (hs : step s = .next t) (hr : t.response = some r) {k : Nat} (hk : k < 4) :
    t.faultLog.getLsbD k = (s.faultLog.getLsbD k || decide (r.status.toNat = k + 1)) := by
  rcases step_command_cases h with ⟨e, he⟩ | ⟨t', ht, he⟩
  · cases he.symm.trans hs
    cases hr
    exact getLsbD_logError s.faultLog e hk
  · cases he.symm.trans hs
    obtain ⟨v, hv⟩ := ht.answered
    cases hv.symm.trans hr
    simp [ht.faultLog, okCode]

/-- Another value in FAULT_LOG changes nothing else that a step leaves (R42). -/
theorem step_setFaultLog {s t : State} (hs : step s = .next t) (log : BitVec 4) :
    ∃ log', step (s.setFaultLog log) = .next (t.setFaultLog log') := by
  match h : s.pending with
  | [] =>
    cases (step_of_idle h).symm.trans hs
    exact ⟨log, step_of_idle h⟩
  | .reset :: rest =>
    cases (step_of_reset h).symm.trans hs
    exact ⟨0#4, step_of_reset h⟩
  | .command c w :: rest =>
    rcases step_setFaultLog_cases h with ⟨e, he⟩ | ⟨t', -, he⟩
    · cases (he s.faultLog).symm.trans hs
      exact ⟨logError log e, he log⟩
    · cases (he s.faultLog).symm.trans hs
      exact ⟨log, he log⟩

/-! ### The statements -/

/-- Settles O8: a failure and a success both answer the command, in the state that has taken it. -/
theorem everyCommandIsAnsweredAndAdvancesTheIndex : Obligations.EveryCommandIsAnsweredAndAdvancesTheIndex := by
  refine ⟨rfl, fun s c w rest h => ?_⟩
  rcases step_command_cases h with ⟨e, hs⟩ | ⟨t, ht, hs⟩
  · exact ⟨_, _, hs, rfl, rfl, rfl⟩
  · obtain ⟨v, hv⟩ := ht.answered
    exact ⟨t, _, hs, hv, ht.index, ht.pending⟩

/-- Settles O17: an error sets its own bit, the reset event clears them all, and a step is the same for every value of FAULT_LOG. -/
theorem faultLogIsStickyAndUnread : Obligations.FaultLogIsStickyAndUnread := by
  refine ⟨fun s t c w rest r h hs hr k hk => getLsbD_faultLog_of_step h hs hr hk,
    fun s rest h => ⟨_, step_of_reset h, rfl⟩, fun s t log hs => ?_⟩
  obtain ⟨log', hu⟩ := step_setFaultLog hs log
  exact ⟨_, hu, rfl⟩

end Sys2Proof.Machine
end

section
/-! PROOFS. READ_STEP: the hand-off of STEP_OUT (spec/20_memory.md R79, spec/43_configuration_and_handoff.md R225). -/

namespace Sys2Proof.Machine

/-- READ_STEP has one outcome: no context is refused and no register decides it. -/
theorem exec_readStep (s : State) : exec .readStep s = .next (s.answer s.stepOut) := rfl

theorem State.answer_eq_with_response (result : Result) (s : State) :
    s.answer result = { s with response := some ⟨0#3, result⟩ } := rfl

/-- Settles O44: READ_STEP succeeds with STEP_OUT as its result, and an answer changes nothing but the response. -/
theorem readStepAnswersStepOut : Obligations.ReadStepAnswersStepOut := by
  intro s
  rw [exec_readStep, State.answer_eq_with_response]

end Sys2Proof.Machine
end

section
/-! PROOFS. Encoding: the decoder on encoded words, assembler lines and illegal words (spec/30_encoding.md R92 to R104). -/

namespace Sys2Proof

/-! ### The decoder reads back what the encoder and R103's sums write -/

/-- A field of a word, from the word's number. -/
theorem extractLsb_eq_of_toNat {n hi lo : Nat} {w : BitVec n} {v : BitVec (hi - lo + 1)}
    (h : w.toNat / 2 ^ lo % 2 ^ (hi - lo + 1) = v.toNat) : w.extractLsb hi lo = v := by
  rw [← BitVec.toNat_inj, toNat_field, h]

/-- No operand bit of an encoding is dropped (R92 to R96). -/
theorem decode_encode (i : Instr) : decode (encode i) = .ok i := by
  cases i with
  | configure gran ppr =>
    have hg := gran.bit_toNat_le
    have hp := ppr.isLt
    have hw : (encode (.configure gran ppr)).toNat = 2 ^ 32 + gran.bit.toNat * 2 ^ 16 + ppr.toNat := encode_toNat _
    generalize encode (.configure gran ppr) = w at hw ⊢
    have hop : (opcodeOf w).toNat = 1 := by rw [opcodeOf_toNat]; omega
    have hres : w.extractLsb 31 17 = 0#15 := extractLsb_eq_of_toNat (by rw [BitVec.toNat_zero]; omega)
    have hgran : w.extractLsb 16 16 = gran.bit := extractLsb_eq_of_toNat (by omega)
    have hppr : w.extractLsb 15 0 = ppr := extractLsb_eq_of_toNat (by omega)
    simp only [decode, hop, decodeCfg, hres, hgran, hppr, Granularity.ofBit_bit, if_true]
  | sample pins tick =>
    have hp := pins.isLt
    have ht := tick.isLt
    have hw : (encode (.sample pins tick)).toNat = 2 * 2 ^ 32 + pins.toNat * 2 ^ 16 + tick.toNat := encode_toNat _
    generalize encode (.sample pins tick) = w at hw ⊢
    have hop : (opcodeOf w).toNat = 2 := by rw [opcodeOf_toNat]; omega
    have hres : w.extractLsb 31 18 = 0#14 := extractLsb_eq_of_toNat (by rw [BitVec.toNat_zero]; omega)
    have hpins : w.extractLsb 17 16 = pins := extractLsb_eq_of_toNat (by omega)
    have htick : w.extractLsb 15 0 = tick := extractLsb_eq_of_toNat (by omega)
    simp only [decode, hop, decodeSmp, hres, hpins, htick, if_true]
  | elapsed prev cur =>
    have hp := prev.isLt
    have hc := cur.isLt
    have hw : (encode (.elapsed prev cur)).toNat = 3 * 2 ^ 32 + prev.toNat * 2 ^ 16 + cur.toNat := encode_toNat _
    generalize encode (.elapsed prev cur) = w at hw ⊢
    have hop : (opcodeOf w).toNat = 3 := by rw [opcodeOf_toNat]; omega
    have hprev : w.extractLsb 31 16 = prev := extractLsb_eq_of_toNat (by omega)
    have hcur : w.extractLsb 15 0 = cur := extractLsb_eq_of_toNat (by omega)
    simp only [decode, hop, decodeElp, hprev, hcur]
  | readStep => decide

/-- A number that is an instruction's word decodes to that instruction. -/
theorem decode_ofNat {n : Nat} {i : Instr} (h : (encode i).toNat = n) : decode (BitVec.ofNat 36 n) = .ok i := by
  rw [← h, BitVec.ofNat_toNat, BitVec.setWidth_eq, decode_encode]

/-! ### The decoder and the legal words of R99 -/

/-- A legal word spells an instruction (R99). -/
theorem exists_decode_ok_of_legalWord {w : CommandWord} (h : WellFormed.legalWord w = true) :
    ∃ i, decode w = .ok i := by
  rcases decode_cases w with ⟨-, hd⟩ | ⟨-, hd⟩ | ⟨-, hd⟩ | ⟨-, hd⟩ | ⟨hl, -⟩
  · exact ⟨_, hd⟩
  · exact ⟨_, hd⟩
  · exact ⟨_, hd⟩
  · exact ⟨_, hd⟩
  · exact absurd (h.symm.trans hl) (by decide)

/-- An illegal word is rejected: each of the four formats makes its word legal (R99). -/
theorem exists_decode_error_of_not_legalWord {w : CommandWord} (h : WellFormed.legalWord w = false) :
    ∃ why, decode w = .error why := by
  rw [← Bool.not_eq_true, legalWord_eq_true_iff] at h
  rcases decode_cases w with ⟨hw, -⟩ | ⟨hw, -⟩ | ⟨hw, -⟩ | ⟨hw, -⟩ | ⟨-, he⟩
  · exact absurd (by omega) h
  · exact absurd (by omega) h
  · exact absurd (by omega) h
  · exact absurd (by omega) h
  · exact he

end Sys2Proof

namespace Sys2Proof.Machine

/-! ### Assembler lines -/

section
variable {n m : Nat} (hn : n < 2 ^ 16)
include hn

/-- The sum of R103 for a CONFIGURE line. -/
theorem decode_configureLineWord (gran : Granularity) :
    decode (BitVec.ofNat 36 (0x100000000 + gran.bit.toNat * 2 ^ 16 + n)) =
      .ok (.configure gran (BitVec.ofNat 16 n)) :=
  decode_ofNat (by rw [encode_toNat]; simp only [BitVec.toNat_ofNat]; omega)

/-- The sum of R103 for a SAMPLE line, which R104's expansions use as well. -/
theorem decode_sampleLineWord (ba : PinSample) :
    decode (BitVec.ofNat 36 (sampleLineWord ba n)) = .ok (.sample ba (BitVec.ofNat 16 n)) :=
  decode_ofNat (by rw [encode_toNat]; simp only [BitVec.toNat_ofNat, sampleLineWord]; omega)

/-- The sum of R103 for an ELAPSED line. -/
theorem decode_elapsedLineWord (hm : m < 2 ^ 16) :
    decode (BitVec.ofNat 36 (0x300000000 + n * 2 ^ 16 + m)) =
      .ok (.elapsed (BitVec.ofNat 16 n) (BitVec.ofNat 16 m)) :=
  decode_ofNat (by rw [encode_toNat]; simp only [BitVec.toNat_ofNat]; omega)

end

theorem assemble_of_wf {l : AsmLine} (h : l.wf = true) :
    l.assemble = some ((l.body.words.map (BitVec.ofNat 36)).map (Input.command l.ctx.bit)) := by
  simp [AsmLine.assemble, h, Function.comp_def]

/-! ### An illegal command -/

/-- Failing with IllegalCommand sets bit 3 of FAULT_LOG and changes no other register (R42, R254). -/
theorem take_raise_illegalCommand (c : Ctx) (rest : List Input) (s : State) :
    (s.take c rest).raise .illegalCommand =
      { s with
        ctx := c, pending := rest, index := s.index + 1
        faultLog := s.faultLog ||| 8#4, response := some ⟨4#3, 0#16⟩ } := rfl

/-- No instruction answers IllegalCommand: its own errors are the other three (R254). -/
theorem exec_status_ne_illegalCommand (i : Instr) (s : State) :
    ∃ t r, exec i s = .next t ∧ t.response = some r ∧ r.status ≠ Error.illegalCommand.code := by
  cases i with
  | configure gran ppr =>
    rcases configureWith_cases Config.params gran ppr s with ⟨-, h⟩ | ⟨-, -, h⟩ | ⟨-, -, h⟩
    · exact ⟨_, _, h, rfl, by decide⟩
    · exact ⟨_, _, h, rfl, by decide⟩
    · exact ⟨_, _, h, rfl, by decide⟩
  | sample pins tick =>
    rcases execSample_cases pins tick s with ⟨-, h⟩ | ⟨-, -, h⟩ | ⟨-, -, dir, -, h⟩
    · exact ⟨_, _, h, rfl, by decide⟩
    · exact ⟨_, _, h, rfl, by decide⟩
    · obtain ⟨v, hv⟩ := (succeeded_sampled (process s.dstate s.gran pins).1 dir tick s).answered
      exact ⟨_, _, h, hv, (Error.code_ne_ok .illegalCommand).symm⟩
  | elapsed prev cur => exact ⟨_, _, rfl, rfl, (Error.code_ne_ok .illegalCommand).symm⟩
  | readStep => exact ⟨_, _, rfl, rfl, (Error.code_ne_ok .illegalCommand).symm⟩

/-! ### The statements -/

/-- Settles O5: a line's words are R103's sums, and each sum is the word of the command the line spells. -/
theorem assemblerLinesSpellTheirCommands : Obligations.AssemblerLinesSpellTheirCommands := by
  intro l hwf
  refine ⟨_, assemble_of_wf hwf, ?_⟩
  obtain ⟨ctx, body⟩ := l
  cases body with
  | configure ppr gran =>
    have hp : ppr < 2 ^ 16 := by simpa [AsmLine.wf] using hwf
    simp only [AsmBody.words, List.map_cons, List.map_nil, decode_configureLineWord hp]
  | sample ba tick =>
    have ht : tick < 2 ^ 16 := by simpa [AsmLine.wf] using hwf
    simp only [AsmBody.words, List.map_cons, List.map_nil, decode_sampleLineWord ht]
  | elapsed prev cur =>
    obtain ⟨hp, hc⟩ : prev < 2 ^ 16 ∧ cur < 2 ^ 16 := by simpa [AsmLine.wf] using hwf
    simp only [AsmBody.words, List.map_cons, List.map_nil, decode_elapsedLineWord hp hc]
  | readStep => exact congrArg (fun d => [d]) (decode_encode .readStep)
  | word value => rfl
  | cwcycle t =>
    obtain ⟨-, ht⟩ : ctx = .isr ∧ t < 2 ^ 16 := by simpa [AsmLine.wf] using hwf
    simp only [AsmBody.words, List.map_cons, List.map_nil, decode_sampleLineWord ht]
  | ccwcycle t =>
    obtain ⟨-, ht⟩ : ctx = .isr ∧ t < 2 ^ 16 := by simpa [AsmLine.wf] using hwf
    simp only [AsmBody.words, List.map_cons, List.map_nil, decode_sampleLineWord ht]
  | rest t =>
    obtain ⟨-, ht⟩ : ctx = .isr ∧ t < 2 ^ 16 := by simpa [AsmLine.wf] using hwf
    simp only [AsmBody.words, List.map_cons, List.map_nil, decode_sampleLineWord ht]

/-- Settles O7: the decoder rejects exactly the illegal words, and no instruction answers IllegalCommand. -/
theorem illegalWordsFailAndNoOthers : Obligations.IllegalWordsFailAndNoOthers := by
  intro s c w rest h
  constructor
  · intro hl
    obtain ⟨why, hd⟩ := exists_decode_error_of_not_legalWord hl
    rw [step_of_decode_error h hd, take_raise_illegalCommand]
  · intro hl
    obtain ⟨i, hd⟩ := exists_decode_ok_of_legalWord hl
    rw [step_of_decode_ok h hd]
    exact exec_status_ne_illegalCommand i _

end Sys2Proof.Machine
end

section
/-! PROOFS. The wrap-safe interval: what ELAPSED answers, and that a SAMPLE scales the same interval
(spec/40_wrap_safe_interval.md R121 to R124). -/

namespace Sys2Proof.Machine

/-! ### ELAPSED -/

/-- ELAPSED has one outcome: no context is refused and no operand fails (R120, R122). -/
theorem exec_elapsed (prev cur : TickCount) (s : State) :
    exec (.elapsed prev cur) s = .next (s.answer (elapsed prev cur)) := rfl

theorem elapsed_add_right (prev d : TickCount) : elapsed prev (prev + d) = d :=
  add_sub_cancel_left prev d

/-! ### The step of a marked SAMPLE -/

theorem directionOf_eq_none_iff (code : BitVec 2) : directionOf code = some .none ↔ code = 0b00#2 := by
  revert code
  decide

theorem multiplierAt_of_not_first {s : State} (hf : s.first = false) (tick : TickCount) :
    multiplierAt tick s = bucket s.ceilSlow s.ceilMedium s.ceilFast (elapsed s.lastTick tick) := by
  simp [multiplierAt, hf]

/-- A multiplier is small enough to be read as signed, and to be negated, without changing its magnitude (R11, R186). -/
theorem natAbs_toInt_multiplierAt (tick : TickCount) (s : State) :
    (multiplierAt tick s).toInt.natAbs = (multiplierAt tick s).toNat ∧
      (-multiplierAt tick s).toInt.natAbs = (multiplierAt tick s).toNat := by
  rcases multiplierAt_cases tick s with h | h | h | h <;> rw [h] <;> decide

/-- A detent publishes its multiplier up to sign, in either direction (R186). -/
theorem natAbs_stepOut_sampled {dir : Direction} (hdir : dir ≠ .none) (n : BitVec 4) (tick : TickCount) (s : State) :
    (sampled n dir tick s).stepOut.toInt.natAbs = (multiplierAt tick s).toNat := by
  obtain ⟨hcw, hccw⟩ := natAbs_toInt_multiplierAt tick s
  cases dir with
  | none => exact absurd rfl hdir
  | clockwise => exact hcw
  | counterClockwise => exact hccw

/-- A configured block's SAMPLE of a marked transition succeeds with the multiplier as the magnitude of its step (R144, R186). -/
theorem exists_exec_sample_of_marked {s : State} {pins : PinSample} (hc : s.ctx = .isr) (hg : s.configured = true)
    (hm : (process s.dstate s.gran pins).2 ≠ 0b00#2) (tick : TickCount) :
    ∃ t, exec (.sample pins tick) s = .next t ∧ t.stepOut.toInt.natAbs = (multiplierAt tick s).toNat := by
  obtain ⟨dir, hd⟩ := directionOf_process s.dstate s.gran pins
  have hdir : dir ≠ .none := by
    rintro rfl
    exact hm ((directionOf_eq_none_iff _).mp hd)
  exact ⟨_, exec_sample_of_configured hc hg hd, natAbs_stepOut_sampled hdir _ tick s⟩

/-! ### The statements -/

/-- Settles O43: with FIRST = 0 the multiplier is the bucket of the interval ELAPSED answers, and a detent steps by the multiplier. -/
theorem sampleScalesTheIntervalElapsedAnswers : Obligations.SampleScalesTheIntervalElapsedAnswers := by
  intro s u pins tick hc hg hf hm
  obtain ⟨t, ht, hstep⟩ := exists_exec_sample_of_marked hc hg hm tick
  rw [multiplierAt_of_not_first hf] at hstep
  exact ⟨t, _, _, exec_elapsed s.lastTick tick u, rfl, ht, hstep⟩

/-- Settles O41: n ticks move the 16-bit counter by n modulo 65536, and the interval is what the counter has moved by. -/
theorem elapsedAliasesWholePeriods : Obligations.ElapsedAliasesWholePeriods := by
  intro s prev n
  have hn : BitVec.ofNat 16 (n % 65536) = BitVec.ofNat 16 n := BitVec.eq_of_toNat_eq (Nat.mod_mod n (2 ^ 16))
  refine ⟨_, exec_elapsed .., ?_⟩
  rw [elapsed_add_right, hn]
  rfl

/-- Settles O40: ELAPSED answers the interval whatever the state, and an answer changes nothing but the response. -/
theorem elapsedAnswersTheModularDifference : Obligations.ElapsedAnswersTheModularDifference := by
  intro s prev cur
  exact ⟨elapsed prev cur, exec_elapsed prev cur s, elapsed_toNat prev cur⟩

end Sys2Proof.Machine
end

section
/-! PROOFS. The quadrature decoder: which transitions of the table step, and where the others lead
(spec/41_quadrature_decoder.md R143 to R147, R154). -/

namespace Sys2Proof.Machine

open Sys2Proof.Safety

/-! ### What a SAMPLE leaves, by the direction code of its table entry -/

theorem directionOf_eq_clockwise_iff (code : BitVec 2) : directionOf code = some .clockwise ↔ code = 0b01#2 := by
  revert code
  decide

theorem directionOf_eq_counterClockwise_iff (code : BitVec 2) :
    directionOf code = some .counterClockwise ↔ code = 0b10#2 := by
  revert code
  decide

/-- A step value that is not 0 exactly when the direction code is not, and has the code's sign (R41, R105, R186). -/
abbrev IsStepOf (code : BitVec 2) (v : Result) : Prop :=
  v ∈ stepValues ∧ (v ≠ 0#16 ↔ code ≠ 0b00#2) ∧ (0 < v.toInt ↔ code = 0b01#2) ∧ (v.toInt < 0 ↔ code = 0b10#2)

theorem isStepOf_multiplierAt (tick : TickCount) (s : State) :
    IsStepOf 0b01#2 (multiplierAt tick s) ∧ IsStepOf 0b10#2 (-multiplierAt tick s) := by
  rcases multiplierAt_cases tick s with h | h | h | h <;> rw [h] <;> decide

theorem isStepOf_stepOut_sampled {code : BitVec 2} {dir : Direction} (hd : directionOf code = some dir) (n : BitVec 4)
    (tick : TickCount) (s : State) : IsStepOf code (sampled n dir tick s).stepOut := by
  obtain ⟨hcw, hccw⟩ := isStepOf_multiplierAt tick s
  cases dir with
  | none =>
    obtain rfl := (directionOf_eq_none_iff code).mp hd
    have h0 : IsStepOf 0b00#2 0#16 := by decide
    exact h0
  | clockwise =>
    obtain rfl := (directionOf_eq_clockwise_iff code).mp hd
    exact hcw
  | counterClockwise =>
    obtain rfl := (directionOf_eq_counterClockwise_iff code).mp hd
    exact hccw

@[simp] theorem sampled_dstate (n : BitVec 4) (dir : Direction) (tick : TickCount) (s : State) :
    (sampled n dir tick s).dstate = n := by
  cases dir <;> rfl

@[simp] theorem sampled_response (n : BitVec 4) (dir : Direction) (tick : TickCount) (s : State) :
    (sampled n dir tick s).response = some ⟨okCode, (sampled n dir tick s).stepOut⟩ := rfl

/-- A SAMPLE from ISR on a configured block succeeds: the table's entry gives its next state and the sign of its one result
(R142, R154, R190). -/
theorem exists_exec_sample {s : State} (hc : s.ctx = .isr) (hg : s.configured = true) (pins : PinSample)
    (tick : TickCount) :
    ∃ t, exec (.sample pins tick) s = .next t ∧ t.dstate = (process s.dstate s.gran pins).1 ∧
      t.response = some ⟨okCode, t.stepOut⟩ ∧ IsStepOf (process s.dstate s.gran pins).2 t.stepOut := by
  obtain ⟨dir, hd⟩ := directionOf_process s.dstate s.gran pins
  exact ⟨_, exec_sample_of_configured hc hg hd, sampled_dstate .., sampled_response .., isStepOf_stepOut_sampled hd ..⟩

/-- A SAMPLE whose entry is unmarked leads to the entry's next state with step 0, whatever entry that is (R181). -/
theorem exists_exec_sample_unmarked {s : State} (hc : s.ctx = .isr) (hg : s.configured = true) (pins : PinSample)
    (tick : TickCount) :
    ∃ t, exec (.sample pins tick) s = .next t ∧
      ∀ n, process s.dstate s.gran pins = (n, 0b00#2) → t.dstate = n ∧ t.stepOut = 0#16 := by
  obtain ⟨t, ht, hdstate, -, -, hne, -, -⟩ := exists_exec_sample hc hg pins tick
  refine ⟨t, ht, fun n hn => ?_⟩
  rw [hn] at hdstate hne
  exact ⟨hdstate, not_not.mp fun h => hne.mp h rfl⟩

/-! ### The marked entries of the two tables -/

/-- R144, clockwise. -/
theorem process_full_clockwise_iff : ∀ (d : BitVec 4) (p : PinSample),
    (process d .full p).2 = 0b01#2 ↔ d = CW3 ∧ p = 0b00#2 := by decide

/-- R144, counter-clockwise. -/
theorem process_full_counterClockwise_iff : ∀ (d : BitVec 4) (p : PinSample),
    (process d .full p).2 = 0b10#2 ↔ d = CCW3 ∧ p = 0b00#2 := by decide

theorem process_full_next_of_marked : ∀ (d : BitVec 4) (p : PinSample),
    (process d .full p).2 ≠ 0b00#2 → (process d .full p).1 = START := by decide

/-- R146, clockwise. -/
theorem process_half_clockwise_iff : ∀ (d : BitVec 4) (p : PinSample),
    (process d .half p).2 = 0b01#2 ↔
      (d = CW1 ∧ p = 0b11#2) ∨ (d = CW3 ∧ p = 0b00#2) ∨ (d = CCWR ∧ p = 0b00#2) := by decide

/-- R146, counter-clockwise. -/
theorem process_half_counterClockwise_iff : ∀ (d : BitVec 4) (p : PinSample),
    (process d .half p).2 = 0b10#2 ↔
      (d = CCW1 ∧ p = 0b11#2) ∨ (d = CCW3 ∧ p = 0b00#2) ∨ (d = CWR ∧ p = 0b00#2) := by decide

/-! ### The unmarked entries of R145 and R147, the same in both tables -/

theorem process_repeated (g : Granularity) : ∀ (d : BitVec 4) (p : PinSample),
    combination d = some p → process d g p = (d, 0b00#2) := by
  cases g <;> decide

theorem process_jump (g : Granularity) : ∀ (d : BitVec 4) (p q : PinSample),
    combination d = some q → channelA q ≠ channelA p → channelB q ≠ channelB p →
      process d g p = (if p = 0b00#2 then START else RESYNC, 0b00#2) := by
  cases g <;> decide

/-- RESYNC and the codes after it stand for no pins: they wait for 00 (R145, R147). -/
theorem process_of_resync_le (g : Granularity) : ∀ (d : BitVec 4) (p : PinSample),
    RESYNC.toNat ≤ d.toNat → process d g p = (if p = 0b00#2 then START else RESYNC, 0b00#2) := by
  cases g <;> decide

theorem process_back_to_start {d : BitVec 4} (hd : d = CW1 ∨ d = CCW1) (g : Granularity) :
    process d g 0b00#2 = (START, 0b00#2) := by
  rcases hd with rfl | rfl <;> cases g <;> rfl

theorem process_back_to_cw2 {d : BitVec 4} (hd : d = CW3 ∨ d = CWR) (g : Granularity) :
    process d g 0b11#2 = (CW2, 0b00#2) := by
  rcases hd with rfl | rfl <;> cases g <;> rfl

theorem process_back_to_ccw2 {d : BitVec 4} (hd : d = CCW3 ∨ d = CCWR) (g : Granularity) :
    process d g 0b11#2 = (CCW2, 0b00#2) := by
  rcases hd with rfl | rfl <;> cases g <;> rfl

/-! ### What can come to stand in DSTATE -/

/-- A command keeps DSTATE, starts the decoder anew, or moves it to a next state of the table (R32, R36). -/
theorem exec_dstate_cases {i : Instr} {s t : State} (h : exec i s = .next t) :
    t.dstate = s.dstate ∨ t.dstate = START ∨ ∃ pins, t.dstate = (process s.dstate s.gran pins).1 := by
  cases i with
  | configure gran ppr =>
    rcases configureWith_cases Config.params gran ppr s with ⟨-, he⟩ | ⟨-, -, he⟩ | ⟨-, -, he⟩
    · cases he.symm.trans h
      exact .inl rfl
    · cases he.symm.trans h
      exact .inl rfl
    · cases he.symm.trans h
      exact .inr (.inl rfl)
  | sample pins tick =>
    rcases execSample_cases pins tick s with ⟨-, he⟩ | ⟨-, -, he⟩ | ⟨-, -, dir, -, he⟩
    · cases he.symm.trans h
      exact .inl rfl
    · cases he.symm.trans h
      exact .inl rfl
    · cases he.symm.trans h
      exact .inr (.inr ⟨pins, sampled_dstate ..⟩)
  | elapsed prev cur =>
    cases h
    exact .inl rfl
  | readStep =>
    cases h
    exact .inl rfl

/-- What a step can leave in DSTATE: a command's outcome, START after a reset event, else what stood there. -/
theorem step_dstate_cases {s t : State} (h : step s = .next t) :
    t.dstate = s.dstate ∨ t.dstate = START ∨ ∃ pins, t.dstate = (process s.dstate s.gran pins).1 := by
  rcases step_cases s with ⟨-, hs⟩ | ⟨rest, -, hs⟩ | ⟨c, w, rest, i, -, -, hs⟩ | ⟨c, w, rest, why, -, -, hs⟩
  · cases hs.symm.trans h
    exact .inl rfl
  · cases hs.symm.trans h
    exact .inr (.inl rfl)
  · simpa only [State.take_dstate, State.take_gran] using exec_dstate_cases (hs.symm.trans h)
  · cases hs.symm.trans h
    exact .inl rfl

/-- From a named code no step writes an unused one (R145). -/
theorem step_keeps_dstate_named {s t : State} (hn : s.dstate.toNat ≤ 9) (h : step s = .next t) :
    t.dstate.toNat ≤ 9 := by
  rcases step_dstate_cases h with hd | hd | ⟨pins, hd⟩ <;> rw [hd]
  · exact hn
  · decide
  · exact process_next_le ..

/-! ### The statements -/

/-- Settles O24: no table entry holds the code 11, so the SAMPLE succeeds, and a multiplier is never 0. -/
theorem sampleNeverFailsOnceConfigured : Obligations.SampleNeverFailsOnceConfigured := by
  intro s pins tick hc hg
  obtain ⟨t, ht, hdstate, hresponse, hlegal, hne, -, -⟩ := exists_exec_sample hc hg pins tick
  exact ⟨t, ht, hdstate, hresponse, hlegal, hne⟩

/-- Settles O28: the step has the sign of the table's direction code, and the full-step table marks two entries. -/
theorem fullStepMarksTwoTransitions : Obligations.FullStepMarksTwoTransitions := by
  intro s pins tick hc hg hgran
  obtain ⟨t, ht, hdstate, -, -, hne, hpos, hneg⟩ := exists_exec_sample hc hg pins tick
  rw [hgran] at hdstate hne hpos hneg
  refine ⟨t, ht, hpos.trans (process_full_clockwise_iff ..), hneg.trans (process_full_counterClockwise_iff ..),
    fun hstep => ?_⟩
  have hv : t.stepOut ≠ 0#16 := fun h0 => hstep (by rw [h0]; rfl)
  rw [hdstate]
  exact process_full_next_of_marked _ _ (hne.mp hv)

/-- Settles O29: the step has the sign of the table's direction code, and the half-step table marks six entries. -/
theorem halfStepMarksSixTransitions : Obligations.HalfStepMarksSixTransitions := by
  intro s pins tick hc hg hgran
  obtain ⟨t, ht, -, -, -, -, hpos, hneg⟩ := exists_exec_sample hc hg pins tick
  rw [hgran] at hpos hneg
  exact ⟨t, ht, hpos.trans (process_half_clockwise_iff ..), hneg.trans (process_half_counterClockwise_iff ..)⟩

/-- Settles O30: each clause names unmarked entries of the table, alike in both granularities. -/
theorem bouncesAndJumpsNeverStep : Obligations.BouncesAndJumpsNeverStep := by
  intro s pins tick hc hg
  obtain ⟨t, ht, unmarked⟩ := exists_exec_sample_unmarked hc hg pins tick
  refine ⟨t, ht, fun hrep => unmarked _ (process_repeated _ _ _ hrep),
    fun q hq hA hB => unmarked _ (process_jump _ _ _ q hq hA hB), fun hd hp => ?_, fun hd hp => ?_, fun hd hp => ?_,
    fun hd => unmarked _ (process_of_resync_le _ _ _ (congrArg BitVec.toNat hd).ge)⟩
  · subst hp
    exact unmarked _ (process_back_to_start hd _)
  · subst hp
    exact unmarked _ (process_back_to_cw2 hd _)
  · subst hp
    exact unmarked _ (process_back_to_ccw2 hd _)

/-- Settles O31: the unused codes have RESYNC's row of the table, and no entry, CONFIGURE or reset event writes one. -/
theorem unusedStateCodesNeverStep : Obligations.UnusedStateCodesNeverStep := by
  refine ⟨fun s pins tick hc hg hd => ?_, by decide, fun s t => step_keeps_dstate_named⟩
  obtain ⟨t, ht, unmarked⟩ := exists_exec_sample_unmarked hc hg pins tick
  have hle : RESYNC.toNat ≤ s.dstate.toNat := Nat.le_of_succ_le hd
  exact ⟨t, ht, unmarked _ (process_of_resync_le _ _ _ hle)⟩

end Sys2Proof.Machine
end

section
/-! PROOFS. The velocity scaler: the state each SAMPLE leaves, and registers that never show
(spec/42_velocity_scaler.md R181 to R186, R189). -/

namespace Sys2Proof.Machine

open Sys2Proof.Safety

/-! ### A SAMPLE, an equation per direction code -/

section
variable {s : State} {pins : PinSample} (hc : s.ctx = .isr) (hg : s.configured = true)
include hc hg

theorem exec_sample_of_unmarked (hd : (process s.dstate s.gran pins).2 = 0b00#2) (tick : TickCount) :
    exec (.sample pins tick) s =
      .next { s with
        dstate := (process s.dstate s.gran pins).1, stepOut := 0#16, response := some ⟨0#3, 0#16⟩ } := by
  rw [exec_sample_of_configured hc hg ((directionOf_eq_none_iff _).mpr hd), sampled_eq]

theorem exec_sample_of_clockwise (hd : (process s.dstate s.gran pins).2 = 0b01#2) (tick : TickCount) :
    exec (.sample pins tick) s =
      .next { s with
        dstate := (process s.dstate s.gran pins).1, lastTick := tick, first := false
        stepOut := multiplierAt tick s, response := some ⟨0#3, multiplierAt tick s⟩ } := by
  rw [exec_sample_of_configured hc hg ((directionOf_eq_clockwise_iff _).mpr hd), sampled_eq]

theorem exec_sample_of_counterClockwise (hd : (process s.dstate s.gran pins).2 = 0b10#2) (tick : TickCount) :
    exec (.sample pins tick) s =
      .next { s with
        dstate := (process s.dstate s.gran pins).1, lastTick := tick, first := false
        stepOut := -multiplierAt tick s, response := some ⟨0#3, -multiplierAt tick s⟩ } := by
  rw [exec_sample_of_configured hc hg ((directionOf_eq_counterClockwise_iff _).mpr hd), sampled_eq]

end

theorem multiplierAt_of_first {s : State} (hf : s.first = true) (tick : TickCount) : multiplierAt tick s = 1#16 := by
  simp [multiplierAt, hf]

/-! ### PPR and CEIL_VFAST are written and never read -/

/-- The state with other values in PPR and CEIL_VFAST. -/
def State.setPprCeilVfast (ppr : BitVec 16) (vfast : BitVec 32) (s : State) : State :=
  { s with ppr := ppr, ceilVfast := vfast }

theorem sameButUnread_iff (s t : State) :
    SameButUnread s t ↔ t = (s.setPprCeilVfast t.ppr t.ceilVfast).setFaultLog t.faultLog := Iff.rfl

theorem sameButUnread_set (s : State) (ppr : BitVec 16) (vfast : BitVec 32) (log : BitVec 4) :
    SameButUnread s ((s.setPprCeilVfast ppr vfast).setFaultLog log) := rfl

theorem response_eq_of_sameButUnread {s t : State} (h : SameButUnread s t) : t.response = s.response := by
  rw [h]

theorem sampled_setPprCeilVfast (n : BitVec 4) (dir : Direction) (tick : TickCount) (ppr : BitVec 16)
    (vfast : BitVec 32) (s : State) :
    sampled n dir tick (s.setPprCeilVfast ppr vfast) = (sampled n dir tick s).setPprCeilVfast ppr vfast := by
  cases dir <;> rfl

/-- A CONFIGURE that succeeds writes both registers; every other outcome carries them along. -/
theorem exec_setPprCeilVfast {i : Instr} {s t : State} (h : exec i s = .next t) (ppr : BitVec 16) (vfast : BitVec 32) :
    ∃ ppr' vfast', exec i (s.setPprCeilVfast ppr vfast) = .next (t.setPprCeilVfast ppr' vfast') := by
  cases i with
  | configure gran n =>
    rcases configureWith_cases Config.params gran n s with ⟨hc, he⟩ | ⟨hc, rfl, he⟩ | ⟨hc, hn, he⟩
    · cases he.symm.trans h
      exact ⟨ppr, vfast, exec_configure_of_isr hc⟩
    · cases he.symm.trans h
      exact ⟨ppr, vfast, exec_configure_zero hc⟩
    · cases he.symm.trans h
      exact ⟨_, _, exec_configure_of_ne_zero hc hn⟩
  | sample pins tick =>
    rcases execSample_cases pins tick s with ⟨hc, he⟩ | ⟨hc, hg, he⟩ | ⟨hc, hg, dir, hd, he⟩
    · cases he.symm.trans h
      exact ⟨ppr, vfast, exec_sample_of_poll hc⟩
    · cases he.symm.trans h
      exact ⟨ppr, vfast, exec_sample_of_not_configured hc hg⟩
    · cases he.symm.trans h
      refine ⟨ppr, vfast, ?_⟩
      rw [← sampled_setPprCeilVfast]
      exact exec_sample_of_configured (s := s.setPprCeilVfast ppr vfast) hc hg hd
  | elapsed prev cur =>
    cases h
    exact ⟨ppr, vfast, rfl⟩
  | readStep =>
    cases h
    exact ⟨ppr, vfast, rfl⟩

/-- Other values in PPR and CEIL_VFAST change nothing else that a step leaves (R35, R189). -/
theorem step_setPprCeilVfast {s t : State} (h : step s = .next t) (ppr : BitVec 16) (vfast : BitVec 32) :
    ∃ ppr' vfast', step (s.setPprCeilVfast ppr vfast) = .next (t.setPprCeilVfast ppr' vfast') := by
  rcases step_cases s with ⟨hp, hs⟩ | ⟨rest, hp, hs⟩ | ⟨c, w, rest, i, hp, hd, hs⟩ | ⟨c, w, rest, why, hp, hd, hs⟩
  · cases hs.symm.trans h
    exact ⟨ppr, vfast, step_of_idle hp⟩
  · cases hs.symm.trans h
    exact ⟨0#16, 0#32, step_of_reset hp⟩
  · obtain ⟨ppr', vfast', hu⟩ := exec_setPprCeilVfast (hs.symm.trans h) ppr vfast
    exact ⟨ppr', vfast', (step_of_decode_ok (s := s.setPprCeilVfast ppr vfast) hp hd).trans hu⟩
  · cases hs.symm.trans h
    exact ⟨ppr, vfast, step_of_decode_error (s := s.setPprCeilVfast ppr vfast) hp hd⟩

/-- States that differ in the three unread registers alone step to states that do. -/
theorem step_sameButUnread {s1 s2 t1 : State} (h : SameButUnread s1 s2) (hs : step s1 = .next t1) :
    ∃ t2, step s2 = .next t2 ∧ SameButUnread t1 t2 := by
  obtain ⟨ppr, vfast, hv⟩ := step_setPprCeilVfast hs s2.ppr s2.ceilVfast
  obtain ⟨log, hl⟩ := step_setFaultLog hv s2.faultLog
  rw [← (sameButUnread_iff s1 s2).mp h] at hl
  exact ⟨_, hl, sameButUnread_set t1 ppr vfast log⟩

/-! ### Runs in step -/

theorem run_succ_eq_next_iff (k : Nat) (s t : State) :
    run (k + 1) s = .next t ↔ ∃ u, step s = .next u ∧ run k u = .next t := by
  rw [run]
  cases step s <;> simp

/-- A relation every step keeps is kept by runs of any length. -/
theorem run_related {R : State → State → Prop}
    (hR : ∀ {s1 s2 t1 : State}, R s1 s2 → step s1 = .next t1 → ∃ t2, step s2 = .next t2 ∧ R t1 t2)
    (k : Nat) {s1 s2 t1 : State} (h : R s1 s2) (hrun : run k s1 = .next t1) :
    ∃ t2, run k s2 = .next t2 ∧ R t1 t2 := by
  induction k generalizing s1 s2 with
  | zero =>
    cases hrun
    exact ⟨s2, rfl, h⟩
  | succ k ih =>
    obtain ⟨u1, hs1, hrest⟩ := (run_succ_eq_next_iff k s1 t1).mp hrun
    obtain ⟨u2, hs2, hu⟩ := hR h hs1
    obtain ⟨t2, hrest2, ht⟩ := ih hu hrest
    exact ⟨t2, (run_succ_eq_next_iff k s2 t2).mpr ⟨u2, hs2, hrest2⟩, ht⟩

/-! ### The statements -/

/-- Settles O26: with FIRST = 1 the multiplier is 1, and -1 is 0xFFFF. -/
theorem firstDetentStepsByOne : Obligations.FirstDetentStepsByOne := by
  intro s pins tick hc hg hf
  constructor
  · intro hd
    rw [exec_sample_of_clockwise hc hg hd, multiplierAt_of_first hf]
  · intro hd
    rw [exec_sample_of_counterClockwise hc hg hd, multiplierAt_of_first hf]
    rfl

/-- Settles O27: with FIRST = 0 the multiplier is the bucket of the wrap-safe interval. -/
theorem laterDetentsStepByTheirBucket : Obligations.LaterDetentsStepByTheirBucket := by
  intro s pins tick i hc hg hf hi
  rw [← elapsed_toNat] at hi
  subst hi
  refine ⟨multiplierAt tick s, ?_, fun hd => exec_sample_of_clockwise hc hg hd tick,
    fun hd => exec_sample_of_counterClockwise hc hg hd tick⟩
  rw [multiplierAt_of_not_first hf]
  exact bucket_cases ..

/-- Settles O49: no step reads the three registers, so runs from the two states stay related. -/
theorem unreadRegistersNeverShow : Obligations.UnreadRegistersNeverShow := by
  intro k s1 s2 t1 h hrun
  obtain ⟨t2, hrun2, ht⟩ := run_related step_sameButUnread k h hrun
  exact ⟨t2, hrun2, ht, response_eq_of_sameButUnread ht⟩

/-- Settles O25: without a detent nothing but DSTATE, STEP_OUT and the response is written. -/
theorem sampleWithoutDetentStepsZero : Obligations.SampleWithoutDetentStepsZero :=
  fun _ _ tick hc hg hd => exec_sample_of_unmarked hc hg hd tick

end Sys2Proof.Machine
end

section
/-! PROOFS. CONFIGURE: its one error of its own, and the block a success leaves
(spec/43_configuration_and_handoff.md R220 to R224). -/

namespace Sys2Proof.Machine

/-! ### Which command fails, and how -/

/-- What an instruction can answer: the error of its first failing check, or success (R251 to R253, R257). -/
theorem exec_cases (i : Instr) (s : State) :
    (permits i s.ctx = false ∧ exec i s = .next (s.raise .contextViolation)) ∨
    (∃ pins tick, i = .sample pins tick ∧ s.ctx = .isr ∧ s.configured = false ∧
      exec i s = .next (s.raise .notConfigured)) ∨
    (∃ gran, i = .configure gran 0#16 ∧ s.ctx = .poll ∧ exec i s = .next (s.raise .invalidConfiguration)) ∨
    (∃ t, Succeeded s t ∧ exec i s = .next t) := by
  cases i with
  | configure gran ppr =>
    rcases configureWith_cases Config.params gran ppr s with ⟨hc, he⟩ | ⟨hc, rfl, he⟩ | ⟨-, -, he⟩
    · exact .inl ⟨by rw [hc]; rfl, he⟩
    · exact .inr (.inr (.inl ⟨gran, rfl, hc, he⟩))
    · exact .inr (.inr (.inr ⟨_, succeeded_construct_answer .., he⟩))
  | sample pins tick =>
    rcases execSample_cases pins tick s with ⟨hc, he⟩ | ⟨hc, hg, he⟩ | ⟨-, -, dir, -, he⟩
    · exact .inl ⟨by rw [hc]; rfl, he⟩
    · exact .inr (.inl ⟨pins, tick, rfl, hc, hg, he⟩)
    · exact .inr (.inr (.inr ⟨_, succeeded_sampled .., he⟩))
  | elapsed prev cur => exact .inr (.inr (.inr ⟨_, succeeded_answer .., exec_elapsed prev cur s⟩))
  | readStep => exact .inr (.inr (.inr ⟨_, succeeded_answer .., exec_readStep s⟩))

/-- No other command, no other operand and no other context answers InvalidConfiguration (R221, R251). -/
theorem eq_configure_zero_of_status {i : Instr} {s t : State} {r : Response} (h : exec i s = .next t)
    (hr : t.response = some r) (hstatus : r.status = Error.invalidConfiguration.code) :
    ∃ gran, i = .configure gran 0#16 ∧ s.ctx = .poll := by
  rcases exec_cases i s with ⟨-, he⟩ | ⟨pins, tick, -, -, -, he⟩ | ⟨gran, hi, hc, -⟩ | ⟨u, hu, he⟩
  · cases he.symm.trans h
    cases hr
    exact absurd hstatus (by decide)
  · cases he.symm.trans h
    cases hr
    exact absurd hstatus (by decide)
  · exact ⟨gran, hi, hc⟩
  · cases he.symm.trans h
    obtain ⟨v, hv⟩ := hu.answered
    cases hv.symm.trans hr
    exact absurd hstatus.symm (Error.code_ne_ok _)

/-- Failing with InvalidConfiguration sets bit 0 of FAULT_LOG and changes no other register (R42, R221). -/
theorem State.raise_invalidConfiguration_eq (s : State) :
    s.raise .invalidConfiguration =
      { s with faultLog := s.faultLog ||| 1#4, response := some ⟨1#3, 0#16⟩ } := rfl

/-! ### The block a success leaves -/

/-- The fields of the state a successful CONFIGURE leaves (R222, R223). -/
theorem State.construct_answer_eq (p : Params) (gran : Granularity) (ppr : BitVec 16) (s : State) :
    (s.construct p gran ppr).answer 0#16 =
      { s with
        configured := true, gran := gran, ppr := ppr
        ceilSlow := BitVec.ofNat 32 (p.bSlow * p.refPpr / ppr.toNat)
        ceilMedium := BitVec.ofNat 32 (p.bMedium * p.refPpr / ppr.toNat)
        ceilFast := BitVec.ofNat 32 (p.bFast * p.refPpr / ppr.toNat)
        ceilVfast := BitVec.ofNat 32 (p.bVfast * p.refPpr / ppr.toNat)
        dstate := 0#4, lastTick := 0#16, first := true, stepOut := 0#16
        response := some ⟨0#3, 0#16⟩ } := rfl

/-- Scaling keeps the order of two base thresholds, since neither product is cut off (R40, R223). -/
theorem scaledCeiling_toNat_le {p : Params} (hp : p.Admissible) {low high : Nat} (hle : low ≤ high)
    (hb : high ≤ 65535) (ppr : BitVec 16) :
    (scaledCeiling p low ppr).toNat ≤ (scaledCeiling p high ppr).toNat := by
  rw [scaledCeiling_toNat hp (hle.trans hb), scaledCeiling_toNat hp hb]
  exact Nat.div_le_div_right (Nat.mul_le_mul_right _ hle)

/-! ### The statements -/

/-- Settles O16: a zero PPR fails the one check left in POLL, and every other outcome of an instruction has another status. -/
theorem onlyZeroPprIsAnInvalidConfiguration : Obligations.OnlyZeroPprIsAnInvalidConfiguration := by
  refine ⟨fun s gran hc => ?_, fun s t i r => eq_configure_zero_of_status⟩
  rw [exec_configure_zero hc, State.raise_invalidConfiguration_eq]

/-- Settles O19: the bases of R10 are small enough for 32 bits and ordered by R12, and scaling keeps their order. -/
theorem ceilingsAreExactAndOrdered : Obligations.CeilingsAreExactAndOrdered := by
  intro s gran ppr hc hppr
  have hp := Config.params_admissible
  obtain ⟨-, ⟨hslow_ge, hslow_lt⟩, ⟨hmedium_ge, hmedium_lt⟩, ⟨hfast_ge, hfast_lt⟩, hvfast_lt⟩ := Config.params_admissible
  have hslow : Config.params.bSlow ≤ 65535 := by omega
  have hmedium : Config.params.bMedium ≤ 65535 := by omega
  have hfast : Config.params.bFast ≤ 65535 := by omega
  have hvfast : Config.params.bVfast ≤ 65535 := by omega
  exact ⟨_, exec_configure_of_ne_zero hc hppr,
    scaledCeiling_toNat hp hslow ppr, scaledCeiling_toNat hp hmedium ppr,
    scaledCeiling_toNat hp hfast ppr, scaledCeiling_toNat hp hvfast ppr,
    scaledCeiling_toNat_le hp (by omega) hslow ppr, scaledCeiling_toNat_le hp (by omega) hmedium ppr,
    scaledCeiling_toNat_le hp (by omega) hfast ppr⟩

/-- Settles O18: with PPR above 0 a CONFIGURE from POLL constructs the block, whatever the block held. -/
theorem configureInitialisesTheBlock : Obligations.ConfigureInitialisesTheBlock := by
  intro s gran ppr hc hppr
  rw [exec_configure_of_ne_zero hc hppr, State.construct_answer_eq]

end Sys2Proof.Machine
end

section
/-! PROOFS. Errors: what a failing command leaves, and which error it reports (spec/60_exceptions.md R252 to R258). -/

namespace Sys2Proof.Machine

open Host (Outcome)

/-! ### No step stops -/

/-- Waiting, resetting, failing and succeeding all leave a state: no input is refused and none faults. -/
theorem exists_step_eq_next (s : State) : ∃ t, step s = .next t := by
  match h : s.pending with
  | [] => exact ⟨_, step_of_idle h⟩
  | .reset :: rest => exact ⟨_, step_of_reset h⟩
  | .command c w :: rest =>
    rcases step_command_cases h with ⟨e, hs⟩ | ⟨t, -, hs⟩
    · exact ⟨_, hs⟩
    · exact ⟨t, hs⟩

/-! ### The state a failing command leaves -/

/-- Taking a command and failing it writes the interface and one bit of FAULT_LOG, and no other register (R42, R255). -/
theorem State.take_raise_eq (c : Ctx) (rest : List Input) (e : Error) (s : State) :
    (s.take c rest).raise e =
      { s with
        ctx := c, pending := rest, index := s.index + 1
        faultLog := s.faultLog ||| (1#4 <<< (e.code.toNat - 1)), response := some ⟨e.code, 0#16⟩ } := rfl

/-- Failing with NotConfigured sets bit 1 of FAULT_LOG and changes no other register (R42, R252). -/
theorem State.raise_notConfigured_eq (s : State) :
    s.raise .notConfigured =
      { s with faultLog := s.faultLog ||| 2#4, response := some ⟨2#3, 0#16⟩ } := rfl

/-- Failing with ContextViolation sets bit 2 of FAULT_LOG and changes no other register (R42, R253). -/
theorem State.raise_contextViolation_eq (s : State) :
    s.raise .contextViolation =
      { s with faultLog := s.faultLog ||| 4#4, response := some ⟨3#3, 0#16⟩ } := rfl

/-- A step that answers a non-zero status has failed with the error of that status. -/
theorem exists_error_of_status_ne_ok {s t : State} {c w rest r} (h : s.pending = .command c w :: rest)
    (hs : step s = .next t) (hr : t.response = some r) (hstatus : r.status ≠ okCode) :
    ∃ e : Error, r = ⟨e.code, 0#16⟩ ∧ t = (s.take (Ctx.ofBit c) rest).raise e := by
  rcases step_command_cases h with ⟨e, he⟩ | ⟨u, hu, he⟩
  · cases he.symm.trans hs
    cases hr
    exact ⟨e, rfl, rfl⟩
  · cases he.symm.trans hs
    obtain ⟨v, hv⟩ := hu.answered
    cases hv.symm.trans hr
    exact absurd rfl hstatus

/-! ### Which error is reported -/

/-- From `s` the outcome answers this status code, and a failure sets the FAULT_LOG bit of that code alone (R42, R257). -/
def Reports (s : State) (o : Outcome State Fault Refusal) (code : BitVec 3) : Prop :=
  ∃ t r, o = .next t ∧ t.response = some r ∧ r.status = code ∧
    (r.status ≠ 0#3 → t.faultLog = s.faultLog ||| (1#4 <<< (r.status.toNat - 1)))

theorem reports_raise (e : Error) (s : State) : Reports s (.next (s.raise e)) e.code :=
  ⟨_, _, rfl, rfl, rfl, fun _ => rfl⟩

theorem Succeeded.reports {s t : State} (ht : Succeeded s t) : Reports s (.next t) okCode := by
  obtain ⟨v, hv⟩ := ht.answered
  exact ⟨t, _, rfl, hv, rfl, fun hne => absurd rfl hne⟩

/-- Taking the command does not touch FAULT_LOG. -/
@[simp] theorem reports_take_iff {c : Ctx} {rest : List Input} {s : State} {o : Outcome State Fault Refusal} {code : BitVec 3} :
    Reports (s.take c rest) o code ↔ Reports s o code := Iff.rfl

/-- A CONFIGURE checks its context before its PPR (R257). -/
theorem reports_configure (gran : Granularity) (ppr : BitVec 16) (s : State) :
    Reports s (exec (.configure gran ppr) s)
      (if s.ctx = .isr then 3#3 else if ppr = 0#16 then 1#3 else 0#3) := by
  cases hc : s.ctx with
  | isr =>
    rw [exec_configure_of_isr hc]
    exact reports_raise .contextViolation s
  | poll =>
    by_cases hp : ppr = 0#16
    · subst hp
      rw [exec_configure_zero hc]
      exact reports_raise .invalidConfiguration s
    · rw [exec_configure_of_ne_zero hc hp, if_neg (by decide), if_neg hp]
      exact (succeeded_construct_answer ..).reports

/-- A SAMPLE checks its context before CONFIGURED (R257). -/
theorem reports_sample (pins : PinSample) (tick : TickCount) (s : State) :
    Reports s (exec (.sample pins tick) s)
      (if s.ctx = .poll then 3#3 else if s.configured = false then 2#3 else 0#3) := by
  cases hc : s.ctx with
  | poll =>
    rw [exec_sample_of_poll hc]
    exact reports_raise .contextViolation s
  | isr =>
    cases hg : s.configured with
    | false =>
      rw [exec_sample_of_not_configured hc hg]
      exact reports_raise .notConfigured s
    | true =>
      obtain ⟨dir, hd⟩ := directionOf_process s.dstate s.gran pins
      rw [exec_sample_of_configured hc hg hd]
      exact (succeeded_sampled ..).reports

theorem legalWord_of_decode_ok {w : CommandWord} {i : Instr} (h : decode w = .ok i) : WellFormed.legalWord w = true := by
  by_contra hl
  obtain ⟨why, he⟩ := exists_decode_error_of_not_legalWord (Bool.eq_false_of_not_eq_true hl)
  cases he.symm.trans h

/-- The PPR field of a word is zero when the word's number is a multiple of 2^16 (R93). -/
theorem ppr_field_eq_zero_iff (w : CommandWord) : w.extractLsb 15 0 = 0#16 ↔ w.toNat % 2 ^ 16 = 0 := by
  rw [← BitVec.toNat_inj, toNat_field]
  simp

/-- Only the two refused pairs of R258 answer ContextViolation. -/
theorem exec_status_ne_contextViolation {i : Instr} {s : State} (hp : permits i s.ctx = true) :
    ∃ t r, exec i s = .next t ∧ t.response = some r ∧ r.status ≠ Error.contextViolation.code := by
  rcases exec_cases i s with ⟨hn, -⟩ | ⟨-, -, -, -, -, he⟩ | ⟨-, -, -, he⟩ | ⟨t, ht, he⟩
  · exact absurd (hp.symm.trans hn) (by decide)
  · exact ⟨_, _, he, rfl, by decide⟩
  · exact ⟨_, _, he, rfl, by decide⟩
  · obtain ⟨v, hv⟩ := ht.answered
    exact ⟨t, _, he, hv, (Error.code_ne_ok .contextViolation).symm⟩

/-! ### The statements -/

/-- Settles O12: every input leaves a state, and a non-zero status is the code of the one error that was raised. -/
theorem errorsArePreciseAndNoStepStops : Obligations.ErrorsArePreciseAndNoStepStops := by
  refine fun s => ⟨exists_step_eq_next s, fun c w rest t r h hs hr hstatus => ?_⟩
  obtain ⟨e, rfl, rfl⟩ := exists_error_of_status_ne_ok h hs hr hstatus
  obtain ⟨hpos, hle⟩ := e.code_toNat_pos
  exact ⟨hpos, hle, rfl, State.take_raise_eq ..⟩

/-- Settles O13: an illegal word is rejected before any other check, and of the legal words only CONFIGURE and SAMPLE have checks
of their own, the context first. -/
theorem statusFollowsThePriority : Obligations.StatusFollowsThePriority := by
  intro s c w rest h
  change Reports s (step s) _
  rcases decode_cases w with ⟨hw, hd⟩ | ⟨hw, hd⟩ | ⟨hop, hd⟩ | ⟨hw, hd⟩ | ⟨hl, why, hd⟩
  · have hop : w.toNat / 2 ^ 32 = 1 := by omega
    rw [step_of_decode_ok h hd, legalWord_of_decode_ok hd, hop]
    have hconfigure := reports_configure (Granularity.ofBit (w.extractLsb 16 16)) (w.extractLsb 15 0)
      (s.take (Ctx.ofBit c) rest)
    simpa [Ctx.ofBit_eq_isr_iff, ppr_field_eq_zero_iff] using hconfigure
  · have hop : w.toNat / 2 ^ 32 = 2 := by omega
    rw [step_of_decode_ok h hd, legalWord_of_decode_ok hd, hop]
    have hsample : Reports s (exec (.sample (w.extractLsb 17 16) (w.extractLsb 15 0)) (s.take (Ctx.ofBit c) rest))
        (if Ctx.ofBit c = .poll then 3#3 else if s.configured = false then 2#3 else 0#3) := reports_sample ..
    simpa [Ctx.ofBit_eq_poll_iff] using hsample
  · rw [step_of_decode_ok h hd, legalWord_of_decode_ok hd, hop]
    exact (succeeded_answer _ (s.take (Ctx.ofBit c) rest)).reports
  · have hop : w.toNat / 2 ^ 32 = 4 := by omega
    rw [step_of_decode_ok h hd, legalWord_of_decode_ok hd, hop]
    exact (succeeded_answer _ (s.take (Ctx.ofBit c) rest)).reports
  · rw [step_of_decode_error h hd, if_pos hl]
    exact reports_raise .illegalCommand (s.take (Ctx.ofBit c) rest)

/-- Settles O14: the two refused pairs fail their first check, and a permitted pair passes it and has no other way to answer 3. -/
theorem contextsMayIssueTheirCommandsOnly : Obligations.ContextsMayIssueTheirCommandsOnly := by
  refine ⟨fun s pins tick hc => ?_, fun s gran ppr hc => ?_, fun s i hi => exec_status_ne_contextViolation ?_⟩
  · rw [exec_sample_of_poll hc, State.raise_contextViolation_eq]
  · rw [exec_configure_of_isr hc, State.raise_contextViolation_eq]
  · cases i with
    | configure gran ppr => exact congrArg (permits (.configure gran ppr)) hi
    | sample pins tick => exact congrArg (permits (.sample pins tick)) hi
    | elapsed prev cur => rfl
    | readStep => rfl

/-- Settles O15: from ISR the context check passes and CONFIGURED is the next one. -/
theorem sampleBeforeConstructionFails : Obligations.SampleBeforeConstructionFails := by
  intro s pins tick hc hg
  rw [exec_sample_of_not_configured hc hg, State.raise_notConfigured_eq]

end Sys2Proof.Machine
end

section
/-! PROOFS. The invariant: reset meets it and every step keeps it (spec/10_state.md R35 to R42, spec/70_reset_and_hazards.md R290). -/

namespace Sys2Proof.Machine

open Sys2Proof.Safety

/-! ### What each shared operation does to the invariant -/

theorem inv_reset : Inv State.reset where
  dstate_named := by decide
  stepOut_legal := by decide
  before_first := fun _ => ⟨rfl, rfl⟩
  unconfigured := fun _ => ⟨rfl, rfl, rfl, rfl, rfl, rfl, rfl, rfl⟩
  configured := fun h => by cases h
  response_legal := fun r h => by cases h

/-- The reset event gives the registers of reset, and the invariant speaks of no input. -/
theorem inv_resetEvent (rest : List Input) (s : State) : Inv (s.resetEvent rest) :=
  { inv_reset with }

section
variable {s : State} (h : Inv s)
include h

theorem inv_take (c : Ctx) (rest : List Input) : Inv (s.take c rest) :=
  { h with }

theorem inv_answer (v : Result) : Inv (s.answer v) :=
  { h with
    response_legal := by
      intro r hr
      cases hr
      exact ⟨Nat.zero_le 4, fun hne => absurd rfl hne⟩ }

/-- A failure answers 0 and sets the bit its code names (R255). -/
theorem inv_raise (e : Error) : Inv (s.raise e) :=
  { h with
    response_legal := by
      intro r hr
      cases hr
      obtain ⟨hpos, hle⟩ := e.code_toNat_pos
      refine ⟨hle, fun _ => ⟨rfl, ?_⟩⟩
      change (logError s.faultLog e).getLsbD (e.code.toNat - 1) = true
      rw [getLsbD_logError _ _ (by omega), Nat.sub_add_cancel hpos]
      simp }

/-- A CONFIGURE that succeeds leaves the exact ceilings of a positive PPR and the other registers at their initial values. -/
theorem inv_construct (gran : Granularity) {ppr : BitVec 16} (hppr : ppr ≠ 0#16) :
    Inv (s.construct Config.params gran ppr) := by
  have hp := Config.params_admissible
  obtain ⟨-, ⟨-, hslow⟩, ⟨-, hmedium⟩, ⟨-, hfast⟩, hvfast⟩ := Config.params_admissible
  exact
    { dstate_named := Nat.zero_le 9
      stepOut_legal := (by decide : 0#16 ∈ stepValues)
      before_first := fun _ => ⟨rfl, rfl⟩
      unconfigured := fun hg => by cases hg
      configured := fun _ => ⟨hppr, scaledCeiling_toNat hp (by omega) ppr, scaledCeiling_toNat hp (by omega) ppr,
        scaledCeiling_toNat hp (by omega) ppr, scaledCeiling_toNat hp (by omega) ppr⟩
      response_legal := h.response_legal }

/-- A SAMPLE that succeeds: without a detent STEP_OUT is 0, and with one FIRST is 0 from then on. -/
theorem inv_sampled (hg : s.configured = true) {pins : PinSample} {dir : Direction}
    (hd : directionOf (process s.dstate s.gran pins).2 = some dir) (tick : TickCount) :
    Inv (sampled (process s.dstate s.gran pins).1 dir tick s) where
  dstate_named := by
    rw [sampled_dstate]
    exact process_next_le ..
  stepOut_legal := (isStepOf_stepOut_sampled hd ..).1
  before_first := by
    cases dir with
    | none => exact fun hf => ⟨(h.before_first hf).1, rfl⟩
    | clockwise => exact fun hf => by cases hf
    | counterClockwise => exact fun hf => by cases hf
  unconfigured := by cases dir <;> exact fun hg' => absurd (hg.symm.trans hg') (by decide)
  configured := by cases dir <;> exact h.configured
  response_legal := by
    intro r hr
    cases hr
    exact ⟨Nat.zero_le 4, fun hne => absurd rfl hne⟩

/-! ### Commands and steps -/

theorem exec_keeps_inv {i : Instr} {t : State} (ht : exec i s = .next t) : Inv t := by
  cases i with
  | configure gran ppr =>
    rcases configureWith_cases Config.params gran ppr s with ⟨-, he⟩ | ⟨-, -, he⟩ | ⟨-, hppr, he⟩
    · cases he.symm.trans ht
      exact inv_raise h _
    · cases he.symm.trans ht
      exact inv_raise h _
    · cases he.symm.trans ht
      exact inv_answer (inv_construct h gran hppr) _
  | sample pins tick =>
    rcases execSample_cases pins tick s with ⟨-, he⟩ | ⟨-, -, he⟩ | ⟨-, hg, dir, hd, he⟩
    · cases he.symm.trans ht
      exact inv_raise h _
    · cases he.symm.trans ht
      exact inv_raise h _
    · cases he.symm.trans ht
      exact inv_sampled h hg hd tick
  | elapsed prev cur =>
    cases (exec_elapsed prev cur s).symm.trans ht
    exact inv_answer h _
  | readStep =>
    cases (exec_readStep s).symm.trans ht
    exact inv_answer h _

theorem step_keeps_inv {t : State} (ht : step s = .next t) : Inv t := by
  rcases step_cases s with ⟨-, hs⟩ | ⟨rest, -, hs⟩ | ⟨c, w, rest, i, -, -, hs⟩ | ⟨c, w, rest, why, -, -, hs⟩
  · cases hs.symm.trans ht
    exact h
  · cases hs.symm.trans ht
    exact inv_resetEvent rest s
  · exact exec_keeps_inv (inv_take h _ rest) (hs.symm.trans ht)
  · cases hs.symm.trans ht
    exact inv_raise (inv_take h _ rest) _

end

/-! ### The statements -/

/-- Settles O52: every register holds its reset value, and no response has been given. -/
theorem invariantHoldsAtReset : Obligations.InvariantHoldsAtReset := inv_reset

/-- Settles O53: a step waits, resets, fails or succeeds, and each of these operations keeps the invariant. -/
theorem everyStepKeepsTheInvariant : Obligations.EveryStepKeepsTheInvariant :=
  fun _ _ h ht => step_keeps_inv h ht

end Sys2Proof.Machine
end

section
/-! PROOFS. Encoding: the words each instruction owns, and the masks that say so (spec/30_encoding.md R92 to R100). -/

namespace Sys2Proof

/-! ### The encoder writes back what the decoder reads -/

/-- No bit of a legal word is ignored: its fields and its constant bits make up its number (R92, R99). -/
theorem encode_of_decode_ok {w : CommandWord} {i : Instr} (h : decode w = .ok i) : encode i = w := by
  rw [← BitVec.toNat_inj, encode_toNat]
  rcases decode_cases w with ⟨hw, hd⟩ | ⟨hw, hd⟩ | ⟨hw, hd⟩ | ⟨hw, hd⟩ | ⟨-, why, hd⟩ <;> cases hd.symm.trans h
  · simp only [Granularity.bit_ofBit, toNat_field]
    omega
  · simp only [toNat_field]
    omega
  · simp only [toNat_field]
    omega
  · exact hw.symm

/-! ### Masks -/

/-- A mask of all bits from bit n up compares the words' numbers without their low n bits. -/
theorem and_highMask_eq_iff {n : Nat} (w : CommandWord) {mask pattern : CommandWord}
    (hm : mask = BitVec.allOnes 36 <<< n) (hp : pattern &&& mask = pattern) :
    w &&& mask = pattern ↔ w.toNat / 2 ^ n = pattern.toNat / 2 ^ n := by
  have shiftBack (v : CommandWord) : (v >>> n) <<< n = v &&& mask := by rw [hm, BitVec.shiftLeft_ushiftRight]
  have toNat_masked (v : CommandWord) : (v &&& mask).toNat = v.toNat / 2 ^ n * 2 ^ n := by
    have hle := Nat.div_mul_le_self v.toNat (2 ^ n)
    rw [← shiftBack, BitVec.toNat_shiftLeft, BitVec.toNat_ushiftRight, Nat.shiftLeft_eq, Nat.shiftRight_eq_div_pow,
      Nat.mod_eq_of_lt (hle.trans_lt v.isLt)]
  calc w &&& mask = pattern
    _ ↔ (w &&& mask).toNat = (pattern &&& mask).toNat := by rw [hp, BitVec.toNat_inj]
    _ ↔ w.toNat / 2 ^ n = pattern.toNat / 2 ^ n := by
      rw [toNat_masked, toNat_masked]
      exact Nat.mul_left_inj (Nat.two_pow_pos n).ne'

theorem configureMask_iff (w : CommandWord) :
    w &&& 0xFFFFE0000#36 = 0x100000000#36 ↔ w.toNat / 2 ^ 17 = 0x1 * 2 ^ 15 :=
  and_highMask_eq_iff w (by decide) (by decide)

theorem sampleMask_iff (w : CommandWord) :
    w &&& 0xFFFFC0000#36 = 0x200000000#36 ↔ w.toNat / 2 ^ 18 = 0x2 * 2 ^ 14 :=
  and_highMask_eq_iff w (by decide) (by decide)

theorem elapsedMask_iff (w : CommandWord) :
    w &&& 0xF00000000#36 = 0x300000000#36 ↔ w.toNat / 2 ^ 32 = 0x3 :=
  and_highMask_eq_iff w (by decide) (by decide)

theorem readStepWord_iff (w : CommandWord) : w = 0x400000000#36 ↔ w.toNat = 0x4 * 2 ^ 32 :=
  BitVec.toNat_inj.symm

/-- A word that matches no row of the opcode map is illegal, and no other word is (R99, R100). -/
theorem legalWord_eq_false_iff (w : CommandWord) : WellFormed.legalWord w = false ↔
    w.toNat / 2 ^ 17 ≠ 0x1 * 2 ^ 15 ∧ w.toNat / 2 ^ 18 ≠ 0x2 * 2 ^ 14 ∧ w.toNat / 2 ^ 32 ≠ 0x3 ∧
      w.toNat ≠ 0x4 * 2 ^ 32 := by
  rw [← Bool.not_eq_true, legalWord_eq_true_iff]
  omega

/-! ### The statements -/

/-- Settles O2: each field of the encoded word is the operand it was made from. -/
theorem decodeInvertsEncode : Obligations.DecodeInvertsEncode := decode_encode

/-- Settles O3: the decoder's four formats leave no bit of a word free. -/
theorem encodeInvertsDecode : Obligations.EncodeInvertsDecode := fun _ _ => encode_of_decode_ok

/-- Settles O4: mask and match of a row hold of the numbers the decoder takes for its command, which exclude each other. -/
theorem decodingFollowsTheMasks : Obligations.DecodingFollowsTheMasks := by
  intro w
  simp only [ne_eq, configureMask_iff, sampleMask_iff, elapsedMask_iff, readStepWord_iff]
  rcases decode_cases w with ⟨hw, hd⟩ | ⟨hw, hd⟩ | ⟨hw, hd⟩ | ⟨hw, hd⟩ | ⟨hl, why, hd⟩
  · simp [hd]
    omega
  · simp [hd]
    omega
  · simp [hd]
    omega
  · simp [hd]
    omega
  · have hw := (legalWord_eq_false_iff w).mp hl
    simp [hd]
    omega

/-- Settles O1: the decoder run on each of the words. -/
theorem specWordsDecode : Obligations.SpecWordsDecode := by
  unfold Obligations.SpecWordsDecode
  decide

end Sys2Proof
end

section
/-! PROOFS. Intervals, ceilings and buckets: the laws of the interval, and which bucket the ceilings of a CONFIGURE give an interval
(spec/40_wrap_safe_interval.md R123, R125, spec/42_velocity_scaler.md R187 to R193). -/

namespace Sys2Proof.Machine

/-! ### Laws of the interval -/

theorem elapsed_eq_zero_iff (a b : TickCount) : elapsed a b = 0#16 ↔ a = b :=
  sub_eq_zero.trans eq_comm

theorem elapsed_add_elapsed (a b c : TickCount) : elapsed a b + elapsed b c = elapsed a c := by
  rw [add_comm]
  exact sub_add_sub_cancel c b a

/-- Reading both counters as signed changes the interval by a multiple of 2^16 only (R125). -/
theorem elapsed_eq_ofInt (a b : TickCount) : elapsed a b = BitVec.ofInt 16 (b.toInt - a.toInt) := by
  apply BitVec.eq_of_toInt_eq
  rw [elapsed, BitVec.toInt_sub, BitVec.toInt_ofInt]

/-! ### Buckets, by their ceilings -/

/-- Each multiplier, by the comparisons that lead to it: the first that holds wins (R185). -/
theorem bucket_eq_iff (a b c : BitVec 32) (i : TickCount) :
    (bucket a b c i = 1#16 ↔ a.toNat < i.toNat) ∧
    (bucket a b c i = 5#16 ↔ i.toNat ≤ a.toNat ∧ b.toNat < i.toNat) ∧
    (bucket a b c i = 20#16 ↔ i.toNat ≤ a.toNat ∧ i.toNat ≤ b.toNat ∧ c.toNat < i.toNat) ∧
    (bucket a b c i = 100#16 ↔ i.toNat ≤ a.toNat ∧ i.toNat ≤ b.toNat ∧ i.toNat ≤ c.toNat) := by
  rcases bucket_cases a b c i with ⟨ha, h⟩ | ⟨ha, hb, h⟩ | ⟨ha, hb, hc, h⟩ | ⟨ha, hb, hc, h⟩
  · simp [h]
    omega
  · simp [h]
    omega
  · simp [h]
    omega
  · simp [h]
    omega

/-- What a multiplier is at least, by the slower comparisons that fail. -/
theorem le_bucket (a b c : BitVec 32) (i : TickCount) :
    1 ≤ (bucket a b c i).toNat ∧ (i.toNat ≤ a.toNat → 5 ≤ (bucket a b c i).toNat) ∧
    (i.toNat ≤ a.toNat → i.toNat ≤ b.toNat → 20 ≤ (bucket a b c i).toNat) := by
  rcases bucket_cases a b c i with ⟨ha, h⟩ | ⟨ha, hb, h⟩ | ⟨-, -, -, h⟩ | ⟨-, -, -, h⟩
  · simp [h]
    omega
  · simp [h]
    omega
  · simp [h]
  · simp [h]

/-- A longer interval passes every comparison a shorter one does (R191). -/
theorem bucket_toNat_antitone (a b c : BitVec 32) {i j : TickCount} (hij : i.toNat ≤ j.toNat) :
    (bucket a b c j).toNat ≤ (bucket a b c i).toNat := by
  obtain ⟨h1, h5, h20⟩ := le_bucket a b c i
  rcases bucket_cases a b c j with ⟨-, hj⟩ | ⟨ha, -, hj⟩ | ⟨ha, hb, -, hj⟩ | ⟨ha, hb, hc, hj⟩ <;> rw [hj]
  · exact h1
  · exact h5 (hij.trans ha)
  · exact h20 (hij.trans ha) (hij.trans hb)
  · rw [(bucket_eq_iff a b c i).2.2.2.mpr ⟨hij.trans ha, hij.trans hb, hij.trans hc⟩]

/-! ### Ceilings, by the exact thresholds -/

/-- Rounding a threshold down changes no comparison with a whole interval (R187). -/
theorem scaledCeiling_lt_iff {p : Params} (hp : p.Admissible) {base : Nat} (hb : base ≤ 65535) {ppr : BitVec 16}
    (hppr : ppr ≠ 0#16) (i : TickCount) :
    scaledCeiling p base ppr < zext32 i ↔ base * p.refPpr < i.toNat * ppr.toNat := by
  have hpos : 0 < ppr.toNat := Nat.pos_of_ne_zero fun h0 => hppr (BitVec.eq_of_toNat_eq h0)
  rw [BitVec.lt_def, scaledCeiling_toNat hp hb, zext32_toNat, Nat.div_lt_iff_lt_mul hpos]

/-- Dividing by twice the PPR is dividing by it and then by two (R192). -/
theorem scaledCeiling_double {p : Params} (hp : p.Admissible) {base : Nat} (hb : base ≤ 65535) {ppr ppr2 : BitVec 16}
    (h2 : ppr2.toNat = 2 * ppr.toNat) :
    (scaledCeiling p base ppr2).toNat = (scaledCeiling p base ppr).toNat / 2 := by
  rw [scaledCeiling_toNat hp hb, scaledCeiling_toNat hp hb, h2, Nat.div_div_eq_div_mul,
    Nat.mul_comm 2]

/-- The four bases of an admissible set fit u16 (R10). -/
theorem bases_le_of_admissible {p : Params} (hp : p.Admissible) :
    p.bSlow ≤ 65535 ∧ p.bMedium ≤ 65535 ∧ p.bFast ≤ 65535 ∧ p.bVfast ≤ 65535 := by
  obtain ⟨-, ⟨-, hslow⟩, ⟨-, hmedium⟩, ⟨-, hfast⟩, hvfast⟩ := hp
  omega

/-! ### Baseline PPR -/

section
variable {p : Params} (hpos : 1 ≤ p.refPpr) (hle : p.refPpr ≤ 65535)
include hpos hle

theorem ofNat_refPpr_ne_zero : BitVec.ofNat 16 p.refPpr ≠ 0#16 := by
  intro h0
  have hmod : p.refPpr % 65536 = 0 := congrArg BitVec.toNat h0
  omega

/-- At baseline PPR a ceiling is its base value (R188). -/
theorem scaledCeiling_refPpr_toNat {base : Nat} (hb : base ≤ 65535) :
    (scaledCeiling p base (BitVec.ofNat 16 p.refPpr)).toNat = base := by
  rw [scaledCeiling, BitVec.toNat_ofNat, BitVec.toNat_ofNat, Nat.mod_eq_of_lt (a := p.refPpr) (by omega),
    Nat.mul_div_cancel _ hpos, Nat.mod_eq_of_lt (by omega)]

/-- The source's four examples are comparisons of the bases with 9000, 3000, 1500 and 500 (R188). -/
theorem baselineBuckets_iff (hs : p.bSlow ≤ 65535) (hm : p.bMedium ≤ 65535) (hf : p.bFast ≤ 65535)
    {slow medium fast : BitVec 32} (hslow : slow = scaledCeiling p p.bSlow (BitVec.ofNat 16 p.refPpr))
    (hmedium : medium = scaledCeiling p p.bMedium (BitVec.ofNat 16 p.refPpr))
    (hfast : fast = scaledCeiling p p.bFast (BitVec.ofNat 16 p.refPpr)) :
    (bucket slow medium fast 9000#16 = 1#16 ∧ bucket slow medium fast 3000#16 = 5#16 ∧
      bucket slow medium fast 1500#16 = 20#16 ∧ bucket slow medium fast 500#16 = 100#16) ↔
    (3000 ≤ p.bSlow ∧ p.bSlow < 9000) ∧ (1500 ≤ p.bMedium ∧ p.bMedium < 3000) ∧ (500 ≤ p.bFast ∧ p.bFast < 1500) := by
  subst hslow hmedium hfast
  rw [(bucket_eq_iff _ _ _ _).1, (bucket_eq_iff _ _ _ _).2.1, (bucket_eq_iff _ _ _ _).2.2.1,
    (bucket_eq_iff _ _ _ _).2.2.2, scaledCeiling_refPpr_toNat hpos hle hs, scaledCeiling_refPpr_toNat hpos hle hm,
    scaledCeiling_refPpr_toNat hpos hle hf]
  simp only [BitVec.toNat_ofNat]
  omega

end

/-! ### A later detent -/

/-- A detent after the first steps by the bucket of its interval (R182, R185). -/
theorem exists_exec_sample_of_later {s : State} {pins : PinSample} (hc : s.ctx = .isr) (hg : s.configured = true)
    (hf : s.first = false) (hm : (process s.dstate s.gran pins).2 ≠ 0b00#2) (tick : TickCount) :
    ∃ t, exec (.sample pins tick) s = .next t ∧
      t.stepOut.toInt.natAbs = (bucket s.ceilSlow s.ceilMedium s.ceilFast (elapsed s.lastTick tick)).toNat := by
  rw [← multiplierAt_of_not_first hf]
  exact exists_exec_sample_of_marked hc hg hm tick

/-- A slow ceiling of 0 keeps interval 0 alone in the fastest bucket (R193). -/
theorem bucket_toNat_of_slow_zero {slow : BitVec 32} (hslow : slow.toNat = 0) (medium fast : BitVec 32) (i : TickCount) :
    (bucket slow medium fast i).toNat = if i = 0#16 then 100 else 1 := by
  by_cases hi : i = 0#16
  · subst hi
    rw [(bucket_eq_iff slow medium fast 0#16).2.2.2.mpr ⟨Nat.zero_le _, Nat.zero_le _, Nat.zero_le _⟩]
    rfl
  · have hpos : 0 < i.toNat := Nat.pos_of_ne_zero fun h0 => hi (BitVec.eq_of_toNat_eq h0)
    rw [(bucket_eq_iff slow medium fast i).1.mpr (by omega), if_neg hi]
    rfl

/-! ### The statements -/

/-- Settles O20: the quotient by twice the PPR is half the quotient, on each of the four ceilings. -/
theorem doublingPprHalvesEveryCeiling : Obligations.DoublingPprHalvesEveryCeiling := by
  intro s u gran ppr ppr2 hcs hcu hppr h2
  have hp := Config.params_admissible
  obtain ⟨hslow, hmedium, hfast, hvfast⟩ := bases_le_of_admissible hp
  have hppr2 : ppr2 ≠ 0#16 := by
    rintro rfl
    have h0 : ppr.toNat = 0 := by
      rw [BitVec.toNat_ofNat] at h2
      omega
    exact hppr (BitVec.eq_of_toNat_eq h0)
  exact ⟨_, _, exec_configure_of_ne_zero hcs hppr, exec_configure_of_ne_zero hcu hppr2,
    scaledCeiling_double hp hslow h2, scaledCeiling_double hp hmedium h2, scaledCeiling_double hp hfast h2,
    scaledCeiling_double hp hvfast h2⟩

/-- Settles O21: the order of R12 survives multiplication, and each of the three comparisons is the exact one. -/
theorem storedCeilingsDecideAsTheExactThresholds : Obligations.StoredCeilingsDecideAsTheExactThresholds := by
  have hp := Config.params_admissible
  obtain ⟨hslow, hmedium, hfast, -⟩ := bases_le_of_admissible hp
  obtain ⟨⟨href, -⟩, ⟨hslow_ge, -⟩, ⟨hmedium_ge, hmedium_lt⟩, ⟨hfast_ge, hfast_lt⟩, hvfast_lt⟩ := Config.params_admissible
  refine ⟨⟨Nat.mul_lt_mul_of_pos_right (by omega) href, Nat.mul_lt_mul_of_pos_right (by omega) href,
    Nat.mul_lt_mul_of_pos_right (by omega) href⟩, fun s gran ppr hc hppr => ?_⟩
  refine ⟨_, exec_configure_of_ne_zero hc hppr, fun i => ?_⟩
  simp only [State.answer_ceilSlow, State.answer_ceilMedium, State.answer_ceilFast, State.construct_ceilSlow,
    State.construct_ceilMedium, State.construct_ceilFast, bucket, scaledCeiling_lt_iff hp hslow hppr,
    scaledCeiling_lt_iff hp hmedium hppr, scaledCeiling_lt_iff hp hfast hppr]

/-- Settles O22: at baseline PPR the ceilings are the base values. -/
theorem baselineExamplesForceTheBounds : Obligations.BaselineExamplesForceTheBounds := by
  intro p s gran hpos hle hs hm hf hc
  have hppr := ofNat_refPpr_ne_zero hpos hle
  rcases configureWith_cases p gran (BitVec.ofNat 16 p.refPpr) s with ⟨hc', -⟩ | ⟨-, h0, -⟩ | ⟨-, -, he⟩
  · exact absurd (hc.symm.trans hc') (by decide)
  · exact absurd h0 hppr
  · exact ⟨_, he, baselineBuckets_iff hpos hle hs hm hf rfl rfl rfl⟩

/-- Settles O23: the machine's parameters keep the bounds of R10, so its buckets at baseline PPR are the source's. -/
theorem baselineIntervalsStepAsTheSourceSays : Obligations.BaselineIntervalsStepAsTheSourceSays := by
  intro s gran hc
  obtain ⟨hslow, hmedium, hfast, -⟩ := bases_le_of_admissible Config.params_admissible
  obtain ⟨⟨hpos, hle⟩, hs, hm, hf, -⟩ := Config.params_admissible
  refine ⟨_, exec_configure_of_ne_zero hc (ofNat_refPpr_ne_zero hpos hle), ?_⟩
  intro u pins tick hus hum huf huc hug hufirst humarked
  obtain ⟨v, hv, hstep⟩ := exists_exec_sample_of_later huc hug hufirst humarked tick
  obtain ⟨h9000, h3000, h1500, h500⟩ := (baselineBuckets_iff hpos hle hslow hmedium hfast hus hum huf).mpr ⟨hs, hm, hf⟩
  rw [elapsed] at hstep
  refine ⟨v, hv, fun hi => ?_, fun hi => ?_, fun hi => ?_, fun hi => ?_⟩ <;> rw [hstep, hi]
  · rw [h9000]; rfl
  · rw [h3000]; rfl
  · rw [h1500]; rfl
  · rw [h500]; rfl

/-- Settles O38: a detent steps by its bucket, and a shorter interval is in no slower one. -/
theorem fasterDetentsNeverStepLess : Obligations.FasterDetentsNeverStepLess := by
  intro s pins tick1 tick2 hc hg hf hm hle
  obtain ⟨t, ht, hstep1⟩ := exists_exec_sample_of_later hc hg hf hm tick1
  obtain ⟨u, hu, hstep2⟩ := exists_exec_sample_of_later hc hg hf hm tick2
  refine ⟨t, u, ht, hu, ?_⟩
  rw [hstep1, hstep2]
  exact bucket_toNat_antitone _ _ _ hle

/-- Settles O39: the stored ceilings are the exact quotients, so no interval is beyond 65535 and only interval 0 is within 0. -/
theorem ceilingsAreNotClamped : Obligations.CeilingsAreNotClamped := by
  refine ⟨⟨Config.params_admissible, fun _ _ _ => rfl⟩, fun p s gran ppr hp hc hppr => ?_⟩
  obtain ⟨hslow, hmedium, hfast, hvfast⟩ := bases_le_of_admissible hp
  have hslow_eq := scaledCeiling_toNat hp hslow ppr
  rcases configureWith_cases p gran ppr s with ⟨hc', -⟩ | ⟨-, h0, -⟩ | ⟨-, -, he⟩
  · exact absurd (hc.symm.trans hc') (by decide)
  · exact absurd h0 hppr
  refine ⟨_, he, hslow_eq, scaledCeiling_toNat hp hmedium ppr, scaledCeiling_toNat hp hfast ppr,
    scaledCeiling_toNat hp hvfast ppr, ?_⟩
  intro u pins tick hus hum huf huc hug hufirst humarked
  obtain ⟨v, hv, hstep⟩ := exists_exec_sample_of_later huc hug hufirst humarked tick
  rw [hus, hum, huf] at hstep
  refine ⟨v, hv, fun hge => ?_, fun hzero => ?_⟩
  · have hi := (elapsed u.lastTick tick).isLt
    rw [hstep]
    exact (le_bucket ..).2.1 (by change _ ≤ (scaledCeiling p p.bSlow ppr).toNat; omega)
  · have hbucket := bucket_toNat_of_slow_zero (hslow_eq.trans hzero) (scaledCeiling p p.bMedium ppr)
      (scaledCeiling p p.bFast ppr) (elapsed u.lastTick tick)
    have hiff : elapsed u.lastTick tick = 0#16 ↔ tick = u.lastTick := (elapsed_eq_zero_iff ..).trans eq_comm
    simp only [hiff] at hbucket
    exact hstep.trans hbucket

/-- Settles O42: the interval is a difference modulo 2^16, and signed reading keeps the counters modulo 2^16. -/
theorem intervalLaws : Obligations.IntervalLaws := fun a b c =>
  ⟨(elapsed_eq_zero_iff a a).mpr rfl, elapsed_add_elapsed a b c, elapsed_add_right a b, elapsed_eq_zero_iff a b,
    elapsed_eq_ofInt a b⟩

end Sys2Proof.Machine
end

section
/-! PROOFS. The step: taking a command, waiting, resetting, and running a placed word (spec/10_state.md R31,
spec/60_exceptions.md R258, R266, spec/70_reset_and_hazards.md R290). -/

namespace Sys2Proof.Machine

/-- A 36-bit word stands as it is in the 40 bits of the opcode table. -/
theorem tableWord_toNat (w : CommandWord) : tableWord 40 w.toNat = w := by
  have hw := w.isLt
  rw [tableWord, Nat.mod_eq_of_lt (by omega), if_pos hw, BitVec.ofNat_toNat, BitVec.setWidth_eq]

/-- The context a placed instruction is issued from: ISR for SAMPLE, POLL for the others (R258). -/
theorem requesterOf_encode (i : Instr) :
    requesterOf (encode i) = match i with | .sample _ _ => .isr | _ => .poll := by
  rw [requesterOf, decode_encode]
  cases i <;> rfl

theorem pending_withFetchWord_encode (s : State) (i : Instr) :
    (s.withFetchWord 40 (encode i).toNat).pending =
      .command (requesterOf (encode i)).bit (encode i) :: s.pending.tail := by
  rw [State.withFetchWord, tableWord_toNat]
  rfl

/-! ### The statements -/

/-- Settles O6: the block takes the command and runs it. -/
theorem stepRunsTheDecodedCommand : Obligations.StepRunsTheDecodedCommand :=
  fun _ _ _ _ _ h hd => step_of_decode_ok h hd

/-- Settles O9: with no input fetched the block waits. -/
theorem noPendingInputChangesNothing : Obligations.NoPendingInputChangesNothing := fun _ => step_of_idle

/-- Settles O10: the reset event writes the registers of the reset state, which has no input pending. -/
theorem resetGivesEveryRegisterItsResetValue : Obligations.ResetGivesEveryRegisterItsResetValue := by
  refine ⟨⟨rfl, rfl, rfl, rfl, rfl, rfl, rfl, rfl, rfl, rfl, rfl, rfl⟩, step_of_idle rfl, fun s rest h => ?_⟩
  exact ⟨_, step_of_reset h, rfl, rfl, rfl, rfl, rfl, rfl, rfl, rfl, rfl, rfl, rfl, rfl⟩

/-- Settles O11: the placed word is the next one taken, its CTX bit names its requester, and it decodes to its instruction. -/
theorem aPlacedWordRunsNext : Obligations.APlacedWordRunsNext := by
  intro s i
  rw [step_of_decode_ok (pending_withFetchWord_encode s i) (decode_encode i), Ctx.ofBit_bit, requesterOf_encode]
  rfl

end Sys2Proof.Machine
end

section
/-! PROOFS. The whole machine: who writes which register, and what cannot be observed (spec/10_state.md R32, R33, R38,
spec/20_memory.md R74, spec/92_eei_decisions.md D15). -/

namespace Sys2Proof.Machine

open Sys2Proof.Safety

/-! ### What a step does, by the input it takes -/

theorem takesReset_iff {s : State} {x : Input} {rest : List Input} (h : s.pending = x :: rest) :
    TakesReset s ↔ x = .reset := by
  simp [TakesReset, h]

theorem takesConfigure_iff {s : State} {c : BitVec 1} {w : CommandWord} {rest : List Input} {i : Instr}
    (h : s.pending = .command c w :: rest) (hd : decode w = .ok i) :
    TakesConfigure s ↔ c = 0#1 ∧ ∃ gran ppr, i = .configure gran ppr ∧ ppr ≠ 0#16 := by
  constructor
  · rintro ⟨w', gran, ppr, hw, hd', hppr⟩
    rw [h] at hw
    cases hw
    exact ⟨rfl, gran, ppr, Except.ok.inj (hd.symm.trans hd'), hppr⟩
  · rintro ⟨rfl, gran, ppr, rfl, hppr⟩
    exact ⟨w, gran, ppr, by rw [h]; rfl, hd, hppr⟩

theorem takesSample_iff {s : State} {c : BitVec 1} {w : CommandWord} {rest : List Input} {i : Instr}
    (h : s.pending = .command c w :: rest) (hd : decode w = .ok i) :
    TakesSample s ↔ s.configured = true ∧ c = 1#1 ∧ ∃ pins tick, i = .sample pins tick := by
  constructor
  · rintro ⟨hg, w', pins, tick, hw, hd'⟩
    rw [h] at hw
    cases hw
    exact ⟨hg, rfl, pins, tick, Except.ok.inj (hd.symm.trans hd')⟩
  · rintro ⟨hg, rfl, pins, tick, rfl⟩
    exact ⟨hg, w, pins, tick, by rw [h]; rfl, hd⟩

/-- A command that fails to decode is no success of any kind. -/
theorem not_takes_of_decode_error {s : State} {c : BitVec 1} {w : CommandWord} {rest : List Input} {why : Reject}
    (h : s.pending = .command c w :: rest) (hd : decode w = .error why) : ¬TakesConfigure s ∧ ¬TakesSample s := by
  constructor
  · rintro ⟨w', gran, ppr, hw, hd', -⟩
    rw [h] at hw
    cases hw
    cases hd.symm.trans hd'
  · rintro ⟨-, w', pins, tick, hw, hd'⟩
    rw [h] at hw
    cases hw
    cases hd.symm.trans hd'

theorem not_takesSample_of_takesConfigure {s : State} (h : TakesConfigure s) : ¬TakesSample s := by
  obtain ⟨w, gran, ppr, hw, -, -⟩ := h
  rintro ⟨-, w', pins, tick, hw', -⟩
  cases hw.symm.trans hw'

/-- The next input is no reset event and no CONFIGURE or SAMPLE that succeeds: those alone write registers other than FAULT_LOG (R32). -/
structure TakesNoWriter (s : State) : Prop where
  noReset : ¬TakesReset s
  noConfigure : ¬TakesConfigure s
  noSample : ¬TakesSample s

/-- `t` is `s`, or `s` with a command taken and then answered or failed: only the interface and FAULT_LOG can differ. -/
def OnlyAnswers (s t : State) : Prop :=
  t = s ∨ (∃ c rest v, t = (s.take c rest).answer v) ∨ ∃ c rest e, t = (s.take c rest).raise e

/-- What an instruction leaves, by whether the command is one that writes. -/
theorem exec_writer_cases {s t : State} {c : BitVec 1} {w : CommandWord} {rest : List Input} {i : Instr}
    (h : s.pending = .command c w :: rest) (hd : decode w = .ok i)
    (ht : exec i (s.take (Ctx.ofBit c) rest) = .next t) :
    (TakesConfigure s ∧ ∃ c' gran ppr, t = ((s.take c' rest).construct Config.params gran ppr).answer 0#16) ∨
    (TakesSample s ∧ ∃ c' n dir tick, t = sampled n dir tick (s.take c' rest)) ∨
    (TakesNoWriter s ∧ OnlyAnswers s t) := by
  have hr : ¬TakesReset s := by simp [takesReset_iff h]
  have hconfigure := takesConfigure_iff h hd
  have hsample := takesSample_iff h hd
  cases i with
  | configure gran ppr =>
    rcases configureWith_cases Config.params gran ppr (s.take (Ctx.ofBit c) rest) with
      ⟨hc, he⟩ | ⟨-, hppr, he⟩ | ⟨hc, hppr, he⟩ <;> cases he.symm.trans ht
    · obtain rfl := (Ctx.ofBit_eq_isr_iff c).mp hc
      exact .inr (.inr ⟨⟨hr, by simp [hconfigure], by simp [hsample]⟩, .inr (.inr ⟨_, _, _, rfl⟩)⟩)
    · exact .inr (.inr ⟨⟨hr, by simp [hconfigure, hppr], by simp [hsample]⟩, .inr (.inr ⟨_, _, _, rfl⟩)⟩)
    · exact .inl ⟨hconfigure.mpr ⟨(Ctx.ofBit_eq_poll_iff c).mp hc, gran, ppr, rfl, hppr⟩, _, _, _, rfl⟩
  | sample pins tick =>
    rcases execSample_cases pins tick (s.take (Ctx.ofBit c) rest) with
      ⟨hc, he⟩ | ⟨-, hg, he⟩ | ⟨hc, hg, dir, -, he⟩ <;> cases he.symm.trans ht
    · obtain rfl := (Ctx.ofBit_eq_poll_iff c).mp hc
      exact .inr (.inr ⟨⟨hr, by simp [hconfigure], by simp [hsample]⟩, .inr (.inr ⟨_, _, _, rfl⟩)⟩)
    · rw [State.take_configured] at hg
      exact .inr (.inr ⟨⟨hr, by simp [hconfigure], by simp [hsample, hg]⟩, .inr (.inr ⟨_, _, _, rfl⟩)⟩)
    · exact .inr (.inl ⟨hsample.mpr ⟨hg, (Ctx.ofBit_eq_isr_iff c).mp hc, pins, tick, rfl⟩, _, _, _, _, rfl⟩)
  | elapsed prev cur =>
    cases (exec_elapsed prev cur _).symm.trans ht
    exact .inr (.inr ⟨⟨hr, by simp [hconfigure], by simp [hsample]⟩, .inr (.inl ⟨_, _, _, rfl⟩)⟩)
  | readStep =>
    cases (exec_readStep _).symm.trans ht
    exact .inr (.inr ⟨⟨hr, by simp [hconfigure], by simp [hsample]⟩, .inr (.inl ⟨_, _, _, rfl⟩)⟩)

/-- Everything a step can leave, by the input it takes (R32). -/
theorem step_writer_cases {s t : State} (ht : step s = .next t) :
    (TakesReset s ∧ ∃ rest, t = s.resetEvent rest) ∨
    (TakesConfigure s ∧ ∃ c rest gran ppr, t = ((s.take c rest).construct Config.params gran ppr).answer 0#16) ∨
    (TakesSample s ∧ ∃ c rest n dir tick, t = sampled n dir tick (s.take c rest)) ∨
    (TakesNoWriter s ∧ OnlyAnswers s t) := by
  rcases step_cases s with ⟨hp, hs⟩ | ⟨rest, hp, hs⟩ | ⟨c, w, rest, i, hp, hd, hs⟩ | ⟨c, w, rest, why, hp, hd, hs⟩
  · cases hs.symm.trans ht
    exact .inr (.inr (.inr ⟨⟨by simp [TakesReset, hp], by simp [TakesConfigure, hp], by simp [TakesSample, hp]⟩, .inl rfl⟩))
  · cases hs.symm.trans ht
    exact .inl ⟨(takesReset_iff hp).mpr rfl, rest, rfl⟩
  · rcases exec_writer_cases hp hd (hs.symm.trans ht) with ⟨h, c', hc'⟩ | ⟨h, c', hc'⟩ | h
    · exact .inr (.inl ⟨h, c', rest, hc'⟩)
    · exact .inr (.inr (.inl ⟨h, c', rest, hc'⟩))
    · exact .inr (.inr (.inr h))
  · cases hs.symm.trans ht
    obtain ⟨hconfigure, hsample⟩ := not_takes_of_decode_error hp hd
    exact .inr (.inr (.inr ⟨⟨by simp [takesReset_iff hp], hconfigure, hsample⟩, .inr (.inr ⟨_, _, _, rfl⟩)⟩))

/-! ### Which registers each outcome keeps -/

/-- The configuration registers of R33 to R35 and R40 hold the same values. -/
abbrev SameConfiguration (s t : State) : Prop :=
  t.configured = s.configured ∧ t.gran = s.gran ∧ t.ppr = s.ppr ∧ t.ceilSlow = s.ceilSlow ∧
  t.ceilMedium = s.ceilMedium ∧ t.ceilFast = s.ceilFast ∧ t.ceilVfast = s.ceilVfast

/-- The registers of the decoder, of the scaler and of the hand-off hold the same values (R36, R38, R39, R41). -/
abbrev SameDecoding (s t : State) : Prop :=
  t.dstate = s.dstate ∧ t.lastTick = s.lastTick ∧ t.first = s.first ∧ t.stepOut = s.stepOut

theorem OnlyAnswers.sameConfiguration {s t : State} (h : OnlyAnswers s t) : SameConfiguration s t := by
  rcases h with rfl | ⟨c, rest, v, rfl⟩ | ⟨c, rest, e, rfl⟩ <;> exact ⟨rfl, rfl, rfl, rfl, rfl, rfl, rfl⟩

theorem OnlyAnswers.sameDecoding {s t : State} (h : OnlyAnswers s t) : SameDecoding s t := by
  rcases h with rfl | ⟨c, rest, v, rfl⟩ | ⟨c, rest, e, rfl⟩ <;> exact ⟨rfl, rfl, rfl, rfl⟩

/-- FAULT_LOG changes with an error only (R42). -/
theorem OnlyAnswers.failed {s t : State} (h : OnlyAnswers s t) (hlog : t.faultLog ≠ s.faultLog) :
    ∃ r, t.response = some r ∧ r.status ≠ okCode := by
  rcases h with rfl | ⟨c, rest, v, rfl⟩ | ⟨c, rest, e, rfl⟩
  · exact absurd rfl hlog
  · exact absurd rfl hlog
  · exact ⟨_, rfl, e.code_ne_ok⟩

theorem sampled_sameConfiguration (n : BitVec 4) (dir : Direction) (tick : TickCount) (s : State) :
    SameConfiguration s (sampled n dir tick s) := by
  cases dir <;> exact ⟨rfl, rfl, rfl, rfl, rfl, rfl, rfl⟩

/-- A SAMPLE that steps 0 has completed no detent (R38, R181). -/
theorem sampled_of_stepOut_zero {n : BitVec 4} {dir : Direction} {tick : TickCount} {s : State}
    (h0 : (sampled n dir tick s).stepOut = 0#16) :
    (sampled n dir tick s).lastTick = s.lastTick ∧ (sampled n dir tick s).first = s.first := by
  by_cases hdir : dir = .none
  · subst hdir
    exact ⟨rfl, rfl⟩
  · have hm := natAbs_stepOut_sampled hdir n tick s
    rw [h0] at hm
    rcases multiplierAt_cases tick s with h | h | h | h <;> rw [h] at hm <;> exact absurd hm (by decide)

/-! ### Runs without a writer -/

theorem stepOut_of_step {s t : State} (h : TakesNoWriter s) (ht : step s = .next t) : t.stepOut = s.stepOut := by
  rcases step_writer_cases ht with ⟨hr, -⟩ | ⟨hc, -⟩ | ⟨hs, -⟩ | ⟨-, ha⟩
  · exact absurd hr h.noReset
  · exact absurd hc h.noConfigure
  · exact absurd hs h.noSample
  · exact ha.sameDecoding.2.2.2

/-- STEP_OUT stands through a run in which no input writes it (R41, R72). -/
theorem stepOut_of_run (k : Nat) {s t : State} (hrun : run k s = .next t)
    (h : ∀ j u, j < k → run j s = .next u → TakesNoWriter u) : t.stepOut = s.stepOut := by
  induction k generalizing s with
  | zero =>
    cases hrun
    rfl
  | succ k ih =>
    obtain ⟨u, hs, hrest⟩ := (run_succ_eq_next_iff k s t).mp hrun
    have htail : ∀ j v, j < k → run j u = .next v → TakesNoWriter v := fun j v hj hv =>
      h (j + 1) v (Nat.succ_lt_succ hj) ((run_succ_eq_next_iff j s v).mpr ⟨u, hs, hv⟩)
    rw [ih hrest htail]
    exact stepOut_of_step (h 0 s (Nat.succ_pos k) rfl) hs

/-! ### LAST_TICK while FIRST is 1 -/

/-- The state with another value in LAST_TICK. -/
def State.setLastTick (last : TickCount) (s : State) : State := { s with lastTick := last }

/-- Two states that differ in LAST_TICK at most, and not at all once a detent has completed (R38). -/
def SameButHiddenTick (s t : State) : Prop :=
  t = { s with lastTick := t.lastTick } ∧ (s.first = false → t = s)

theorem sameButHiddenTick_refl (s : State) : SameButHiddenTick s s := ⟨rfl, fun _ => rfl⟩

theorem sameButHiddenTick_setLastTick {s : State} (hf : s.first = true) (last : TickCount) :
    SameButHiddenTick s (s.setLastTick last) := ⟨rfl, fun h => absurd (hf.symm.trans h) (by decide)⟩

/-- With FIRST = 1 a SAMPLE reads no LAST_TICK: without a detent it carries it along, with one it overwrites it (R184). -/
theorem sampled_setLastTick {s : State} (hf : s.first = true) (n : BitVec 4) (dir : Direction) (tick last : TickCount) :
    SameButHiddenTick (sampled n dir tick s) (sampled n dir tick (s.setLastTick last)) := by
  have hm := multiplierAt_of_first hf tick
  have hm' := multiplierAt_of_first (s := s.setLastTick last) hf tick
  by_cases hdir : dir = .none
  · subst hdir
    exact sameButHiddenTick_setLastTick (s := sampled n .none tick s) hf last
  · have heq : sampled n dir tick (s.setLastTick last) = sampled n dir tick s := by
      cases dir with
      | none => exact absurd rfl hdir
      | clockwise =>
        simp only [sampled_eq, hm, hm']
        rfl
      | counterClockwise =>
        simp only [sampled_eq, hm, hm']
        rfl
    rw [heq]
    exact sameButHiddenTick_refl _

theorem exec_setLastTick {i : Instr} {s t : State} (hf : s.first = true) (h : exec i s = .next t) (last : TickCount) :
    ∃ u, exec i (s.setLastTick last) = .next u ∧ SameButHiddenTick t u := by
  cases i with
  | configure gran ppr =>
    rcases configureWith_cases Config.params gran ppr s with ⟨hc, he⟩ | ⟨hc, rfl, he⟩ | ⟨hc, hppr, he⟩
    · cases he.symm.trans h
      exact ⟨_, exec_configure_of_isr hc, sameButHiddenTick_setLastTick (s := s.raise _) hf last⟩
    · cases he.symm.trans h
      exact ⟨_, exec_configure_zero hc, sameButHiddenTick_setLastTick (s := s.raise _) hf last⟩
    · cases he.symm.trans h
      exact ⟨_, exec_configure_of_ne_zero hc hppr, sameButHiddenTick_refl _⟩
  | sample pins tick =>
    rcases execSample_cases pins tick s with ⟨hc, he⟩ | ⟨hc, hg, he⟩ | ⟨hc, hg, dir, hd, he⟩
    · cases he.symm.trans h
      exact ⟨_, exec_sample_of_poll hc, sameButHiddenTick_setLastTick (s := s.raise _) hf last⟩
    · cases he.symm.trans h
      exact ⟨_, exec_sample_of_not_configured hc hg, sameButHiddenTick_setLastTick (s := s.raise _) hf last⟩
    · cases he.symm.trans h
      exact ⟨_, exec_sample_of_configured (s := s.setLastTick last) hc hg hd, sampled_setLastTick hf ..⟩
  | elapsed prev cur =>
    cases h
    exact ⟨_, exec_elapsed prev cur _, sameButHiddenTick_setLastTick (s := s.answer _) hf last⟩
  | readStep =>
    cases h
    exact ⟨_, exec_readStep _, sameButHiddenTick_setLastTick (s := s.answer _) hf last⟩

theorem step_sameButHiddenTick {s1 s2 t1 : State} (h : SameButHiddenTick s1 s2) (ht : step s1 = .next t1) :
    ∃ t2, step s2 = .next t2 ∧ SameButHiddenTick t1 t2 := by
  obtain ⟨hset, heq⟩ := h
  cases hf : s1.first with
  | false =>
    rw [heq hf]
    exact ⟨t1, ht, sameButHiddenTick_refl t1⟩
  | true =>
    generalize s2.lastTick = last at hset
    subst hset
    rcases step_cases s1 with ⟨hp, hs⟩ | ⟨rest, hp, hs⟩ | ⟨c, w, rest, i, hp, hd, hs⟩ | ⟨c, w, rest, why, hp, hd, hs⟩
    · cases hs.symm.trans ht
      exact ⟨_, step_of_idle hp, sameButHiddenTick_setLastTick hf last⟩
    · cases hs.symm.trans ht
      exact ⟨_, step_of_reset hp, sameButHiddenTick_refl _⟩
    · rw [step_of_decode_ok (s := { s1 with lastTick := last }) hp hd]
      exact exec_setLastTick (s := s1.take (Ctx.ofBit c) rest) hf (hs.symm.trans ht) last
    · cases hs.symm.trans ht
      exact ⟨_, step_of_decode_error (s := { s1 with lastTick := last }) hp hd,
        sameButHiddenTick_setLastTick (s := (s1.take _ rest).raise _) hf last⟩

/-! ### Before construction -/

theorem sameInterface_refl (s : State) : SameInterface s s := ⟨rfl, rfl, rfl, rfl, rfl, rfl, fun _ => rfl⟩

theorem sameInterface_setFaultLog (log : BitVec 4) (s : State) : SameInterface s (s.setFaultLog log) :=
  ⟨rfl, rfl, rfl, rfl, rfl, rfl, fun _ => rfl⟩

section
variable {s t : State} (h : SameInterface s t)
include h

theorem sameInterface_take (c : Ctx) (rest : List Input) : SameInterface (s.take c rest) (t.take c rest) := by
  obtain ⟨hg, hstep, -, hresp, -, hindex, heq⟩ := h
  refine ⟨hg, hstep, rfl, hresp, rfl, congrArg (· + 1) hindex, fun hs => ?_⟩
  rw [heq hs]
  rfl

theorem sameInterface_answer (v : Result) : SameInterface (s.answer v) (t.answer v) := by
  obtain ⟨hg, hstep, hctx, -, hp, hindex, heq⟩ := h
  refine ⟨hg, hstep, hctx, rfl, hp, hindex, fun hs => ?_⟩
  rw [heq hs]
  rfl

theorem sameInterface_raise (e : Error) : SameInterface (s.raise e) (t.raise e) := by
  obtain ⟨hg, hstep, hctx, -, hp, hindex, heq⟩ := h
  refine ⟨hg, hstep, hctx, rfl, hp, hindex, fun hs => ?_⟩
  rw [heq hs]
  rfl

/-- A CONFIGURE that succeeds makes the two blocks equal but for FAULT_LOG (R222). -/
theorem sameInterface_construct (p : Params) (gran : Granularity) (ppr : BitVec 16) :
    SameInterface (s.construct p gran ppr) (t.construct p gran ppr) := by
  obtain ⟨-, -, hctx, hresp, hp, hindex, -⟩ := h
  refine ⟨rfl, rfl, hctx, hresp, hp, hindex, fun _ => ?_⟩
  simp only [State.construct, hctx, hresp, hp, hindex]

theorem sameInterface_resetEvent (rest : List Input) : SameInterface (s.resetEvent rest) (t.resetEvent rest) := by
  obtain ⟨-, -, -, -, -, hindex, -⟩ := h
  exact ⟨rfl, rfl, rfl, rfl, rfl, hindex, fun hs => by cases hs⟩

/-- Before construction no instruction reads a register but STEP_OUT (D15). -/
theorem exec_sameInterface_of_not_configured (hg : s.configured = false) {i : Instr} {s' : State}
    (hs : exec i s = .next s') : ∃ t', exec i t = .next t' ∧ SameInterface s' t' := by
  obtain ⟨hconfigured, hstep, hctx, -⟩ := id h
  cases i with
  | configure gran ppr =>
    rcases configureWith_cases Config.params gran ppr s with ⟨hc, he⟩ | ⟨hc, rfl, he⟩ | ⟨hc, hppr, he⟩
    · cases he.symm.trans hs
      exact ⟨_, exec_configure_of_isr (hctx.symm.trans hc), sameInterface_raise h _⟩
    · cases he.symm.trans hs
      exact ⟨_, exec_configure_zero (hctx.symm.trans hc), sameInterface_raise h _⟩
    · cases he.symm.trans hs
      exact ⟨_, exec_configure_of_ne_zero (hctx.symm.trans hc) hppr,
        sameInterface_answer (sameInterface_construct h _ gran ppr) _⟩
  | sample pins tick =>
    rcases execSample_cases pins tick s with ⟨hc, he⟩ | ⟨hc, -, he⟩ | ⟨-, hg', -⟩
    · cases he.symm.trans hs
      exact ⟨_, exec_sample_of_poll (hctx.symm.trans hc), sameInterface_raise h _⟩
    · cases he.symm.trans hs
      exact ⟨_, exec_sample_of_not_configured (hctx.symm.trans hc) (hconfigured.symm.trans hg), sameInterface_raise h _⟩
    · exact absurd (hg.symm.trans hg') (by decide)
  | elapsed prev cur =>
    cases hs
    exact ⟨_, exec_elapsed prev cur t, sameInterface_answer h _⟩
  | readStep =>
    cases hs
    refine ⟨_, exec_readStep t, ?_⟩
    rw [← hstep]
    exact sameInterface_answer h _

theorem step_sameInterface {s' : State} (hs : step s = .next s') :
    ∃ t', step t = .next t' ∧ SameInterface s' t' := by
  obtain ⟨-, -, -, -, hpending, -, heq⟩ := id h
  cases hg : s.configured with
  | true =>
    obtain ⟨log, ht⟩ := step_setFaultLog hs t.faultLog
    rw [heq hg]
    exact ⟨_, ht, sameInterface_setFaultLog log s'⟩
  | false =>
    rcases step_cases s with ⟨hp, he⟩ | ⟨rest, hp, he⟩ | ⟨c, w, rest, i, hp, hd, he⟩ | ⟨c, w, rest, why, hp, hd, he⟩
    · cases he.symm.trans hs
      exact ⟨t, step_of_idle (hpending.symm.trans hp), h⟩
    · cases he.symm.trans hs
      exact ⟨_, step_of_reset (hpending.symm.trans hp), sameInterface_resetEvent h rest⟩
    · rw [step_of_decode_ok (hpending.symm.trans hp) hd]
      exact exec_sameInterface_of_not_configured (sameInterface_take h _ rest) hg (he.symm.trans hs)
    · cases he.symm.trans hs
      exact ⟨_, step_of_decode_error (hpending.symm.trans hp) hd, sameInterface_raise (sameInterface_take h _ rest) _⟩

end

/-! ### The statements -/

/-- Settles O45: no step of the run writes STEP_OUT, and READ_STEP answers it. -/
theorem readStepAnswersTheLastPublishedValue : Obligations.ReadStepAnswersTheLastPublishedValue := by
  intro k s t c rest hrun hquiet hp
  have hstep : t.stepOut = s.stepOut := stepOut_of_run k hrun fun j u hj hu => by
    obtain ⟨hr, hc, hs⟩ := hquiet j u hj hu
    exact ⟨hr, hc, hs⟩
  have hread := step_of_decode_ok hp (decode_encode .readStep)
  rw [exec_readStep, State.take_stepOut, hstep] at hread
  exact ⟨_, hread, rfl, hstep⟩

/-- Settles O46: neither read changes what it reads, and a SAMPLE that kept DSTATE finds the same unmarked table entry again. -/
theorem repeatedReadsAnswerTheSame : Obligations.RepeatedReadsAnswerTheSame := by
  constructor
  · rintro s t u i (rfl | ⟨a, b, rfl⟩) ht hu
    · cases (exec_readStep s).symm.trans ht
      cases (exec_readStep _).symm.trans hu
      rfl
    · cases (exec_elapsed a b s).symm.trans ht
      cases (exec_elapsed a b _).symm.trans hu
      rfl
  · intro s t u pins tick hc hg hm ht hkept hu
    cases (exec_sample_of_unmarked hc hg hm tick).symm.trans ht
    rw [← hkept] at hm
    cases (exec_sample_of_unmarked (s := { s with
      dstate := _, stepOut := 0#16, response := some ⟨0#3, 0#16⟩ }) hc hg hm tick).symm.trans hu
    rfl

/-- Settles O47: what each input's outcome writes. -/
theorem registersAreWrittenByTheirCommandsOnly : Obligations.RegistersAreWrittenByTheirCommandsOnly := by
  intro s t ht hreset
  rcases step_writer_cases ht with ⟨hr, -⟩ | ⟨hc, c, rest, gran, ppr, rfl⟩ | ⟨hs, c, rest, n, dir, tick, rfl⟩ | ⟨hw, ha⟩
  · exact absurd hr hreset
  · exact ⟨fun hn => absurd hc hn, fun hn => absurd hc hn,
      fun hs => absurd hs (not_takesSample_of_takesConfigure hc), fun hlog => absurd rfl hlog⟩
  · exact ⟨fun _ => sampled_sameConfiguration n dir tick (s.take c rest), fun _ hn => absurd hs hn,
      fun _ => sampled_of_stepOut_zero,
      fun hlog => absurd (succeeded_sampled n dir tick (s.take c rest)).faultLog hlog⟩
  · exact ⟨fun _ => ha.sameConfiguration, fun _ _ => ha.sameDecoding, fun hs => absurd hs hw.noSample, ha.failed⟩

/-- Settles O48: of the inputs a step can take, the reset event clears CONFIGURED, a CONFIGURE that succeeds sets it, and no other
writes it. -/
theorem configuredIsSetByConfigureAndClearedByReset : Obligations.ConfiguredIsSetByConfigureAndClearedByReset := by
  intro s
  obtain ⟨t, ht⟩ := exists_step_eq_next s
  refine ⟨t, ht, ?_⟩
  rcases step_writer_cases ht with ⟨hr, rest, rfl⟩ | ⟨hc, c, rest, gran, ppr, rfl⟩ | ⟨hs, c, rest, n, dir, tick, rfl⟩ | ⟨hw, ha⟩
  · have hnc : ¬TakesConfigure s := fun ⟨w, gran, ppr, hw, _⟩ => by cases hr.symm.trans hw
    simp [hr, hnc]
  · exact ⟨fun _ => .inl hc, fun _ => rfl⟩
  · obtain ⟨hg, w, pins, tick', hw, -⟩ := id hs
    have hnr : ¬TakesReset s := fun hr => by cases hr.symm.trans hw
    obtain ⟨hkept, -⟩ := sampled_sameConfiguration n dir tick (s.take c rest)
    exact ⟨fun _ => .inr ⟨hg, hnr⟩, fun _ => hkept.trans hg⟩
  · obtain ⟨hkept, -⟩ := ha.sameConfiguration
    simp [hkept, hw.noConfigure, hw.noReset]

/-- Settles O50: no step reads LAST_TICK while FIRST is 1, and the step that clears FIRST overwrites it. -/
theorem lastTickNeverShowsBeforeTheFirstDetent : Obligations.LastTickNeverShowsBeforeTheFirstDetent := by
  rintro k s1 s2 t1 tick hf rfl hrun
  obtain ⟨t2, hrun2, hset, heq⟩ := run_related step_sameButHiddenTick k (sameButHiddenTick_setLastTick hf tick) hrun
  exact ⟨t2, hrun2, hset, heq⟩

/-- Settles O51: no step reads another register before construction, and FAULT_LOG after it. -/
theorem onlyStepOutShowsBeforeConstruction : Obligations.OnlyStepOutShowsBeforeConstruction :=
  fun k _ _ _ h hrun => run_related (R := SameInterface) (fun hR hs => step_sameInterface hR hs) k h hrun

end Sys2Proof.Machine
end

section
/-! PROOFS. Walks of the pins: what SAMPLE commands answer along a walk, by the codes of the table entries it reads
(spec/41_quadrature_decoder.md R149 to R155). -/

namespace Sys2Proof.Machine

open Sys2Proof.Safety

/-! ### The decoder alone along a walk -/

/-- The direction codes of the table entries a walk reads from the state code `d`. -/
def codesOf (g : Granularity) (d : BitVec 4) : List (PinSample × TickCount) → List (BitVec 2)
  | [] => []
  | x :: more => (process d g x.1).2 :: codesOf g (process d g x.1).1 more

/-- The state code after a walk from the state code `d`. -/
def dstateAfter (g : Granularity) (d : BitVec 4) : List (PinSample × TickCount) → BitVec 4
  | [] => d
  | x :: more => dstateAfter g (process d g x.1).1 more

/-- No entry the walk reads is marked. -/
def Unmarked (g : Granularity) (d : BitVec 4) (walk : List (PinSample × TickCount)) : Prop :=
  ∀ code ∈ codesOf g d walk, code = 0b00#2

section
variable (g : Granularity) (d : BitVec 4) (x : PinSample × TickCount) (more : List (PinSample × TickCount))

@[simp] theorem codesOf_nil : codesOf g d [] = [] := rfl
@[simp] theorem codesOf_cons :
    codesOf g d (x :: more) = (process d g x.1).2 :: codesOf g (process d g x.1).1 more := rfl
@[simp] theorem dstateAfter_nil : dstateAfter g d [] = d := rfl
@[simp] theorem dstateAfter_cons : dstateAfter g d (x :: more) = dstateAfter g (process d g x.1).1 more := rfl
@[simp] theorem unmarked_nil : Unmarked g d [] := by simp [Unmarked]
@[simp] theorem unmarked_cons :
    Unmarked g d (x :: more) ↔ (process d g x.1).2 = 0b00#2 ∧ Unmarked g (process d g x.1).1 more := by
  simp [Unmarked]

@[simp] theorem codesOf_length (walk : List (PinSample × TickCount)) : (codesOf g d walk).length = walk.length := by
  induction walk generalizing d with
  | nil => rfl
  | cons x more ih => simp [ih]

end

/-! ### The machine along a walk -/

theorem sampleRun_cons {s s' : State} {x : PinSample × TickCount} (h : exec (.sample x.1 x.2) s = .next s')
    {more : List (PinSample × TickCount)} {t : State} {results : List Result} (hmore : sampleRun s' more = some (t, results)) :
    sampleRun s (x :: more) = some (t, resultOf s' :: results) := by
  obtain ⟨pins, tick⟩ := x
  simp only [sampleRun, h, hmore]

/-- A SAMPLE that succeeds, with the registers that decide the next one (R142, R154, R181). -/
theorem exists_exec_sample_next {s : State} (hc : s.ctx = .isr) (hg : s.configured = true) (pins : PinSample)
    (tick : TickCount) :
    ∃ t, exec (.sample pins tick) s = .next t ∧ t.ctx = .isr ∧ t.configured = true ∧ t.gran = s.gran ∧
      t.dstate = (process s.dstate s.gran pins).1 ∧ resultOf t = t.stepOut ∧
      IsStepOf (process s.dstate s.gran pins).2 t.stepOut ∧
      ((process s.dstate s.gran pins).2 = 0b00#2 → t.lastTick = s.lastTick ∧ t.first = s.first) := by
  obtain ⟨dir, hd⟩ := directionOf_process s.dstate s.gran pins
  have hstep := isStepOf_stepOut_sampled hd (process s.dstate s.gran pins).1 tick s
  refine ⟨_, exec_sample_of_configured hc hg hd, ?_, ?_, ?_, sampled_dstate .., rfl, hstep, fun h0 => ?_⟩
  · exact (succeeded_sampled ..).ctx.trans hc
  · exact (sampled_sameConfiguration ..).1.trans hg
  · exact (sampled_sameConfiguration ..).2.1
  · exact sampled_of_stepOut_zero (not_not.mp fun h => hstep.2.1.mp h h0)

/-- The SAMPLEs of a walk all succeed; the table says how DSTATE moves and which results step which way, and a walk without marked
entries leaves LAST_TICK and FIRST (R154, R181). -/
theorem exists_sampleRun {s : State} (hc : s.ctx = .isr) (hg : s.configured = true) (walk : List (PinSample × TickCount)) :
    ∃ t results, sampleRun s walk = some (t, results) ∧ t.dstate = dstateAfter s.gran s.dstate walk ∧
      List.Forall₂ IsStepOf (codesOf s.gran s.dstate walk) results ∧
      (Unmarked s.gran s.dstate walk → t.lastTick = s.lastTick ∧ t.first = s.first) := by
  induction walk generalizing s with
  | nil => exact ⟨s, [], rfl, rfl, .nil, fun _ => ⟨rfl, rfl⟩⟩
  | cons x more ih =>
    obtain ⟨s', hs', hc', hg', hgran, hdstate, hresult, hstep, hkept⟩ := exists_exec_sample_next hc hg x.1 x.2
    obtain ⟨t, results, hrun, hend, hcodes, hkept'⟩ := ih hc' hg'
    rw [hgran, hdstate] at hend hcodes hkept'
    refine ⟨t, _, sampleRun_cons hs' hrun, hend, .cons (hresult ▸ hstep) hcodes, fun h => ?_⟩
    obtain ⟨h0, hmore⟩ := (unmarked_cons ..).mp h
    obtain ⟨hlast, hfirst⟩ := hkept h0
    obtain ⟨hlast', hfirst'⟩ := hkept' hmore
    exact ⟨hlast'.trans hlast, hfirst'.trans hfirst⟩

theorem isStepOf_zero_iff (v : Result) : IsStepOf 0b00#2 v ↔ v = 0#16 := by
  constructor
  · rintro ⟨-, hne, -⟩
    exact not_not.mp fun h => hne.mp h rfl
  · rintro rfl
    decide

/-- Unmarked entries answer 0 alone. -/
theorem results_of_unmarked {codes : List (BitVec 2)} {results : List Result} (h : List.Forall₂ IsStepOf codes results)
    (h0 : ∀ code ∈ codes, code = 0b00#2) : results = List.replicate codes.length 0#16 := by
  induction h with
  | nil => rfl
  | cons hv hrest ih =>
    rw [List.forall_mem_cons] at h0
    obtain ⟨rfl, hmore⟩ := h0
    rw [(isStepOf_zero_iff _).mp hv, ih hmore]
    rfl

/-- A walk that reads no marked entry steps 0 all along and completes no detent. -/
theorem exists_sampleRun_of_unmarked {s : State} (hc : s.ctx = .isr) (hg : s.configured = true)
    {walk : List (PinSample × TickCount)} (h : Unmarked s.gran s.dstate walk) :
    ∃ t, sampleRun s walk = some (t, List.replicate walk.length 0#16) ∧
      t.dstate = dstateAfter s.gran s.dstate walk ∧ t.lastTick = s.lastTick ∧ t.first = s.first := by
  obtain ⟨t, results, hrun, hend, hcodes, hkept⟩ := exists_sampleRun hc hg walk
  rw [results_of_unmarked hcodes h, codesOf_length] at hrun
  exact ⟨t, hrun, hend, hkept h⟩

/-! ### DSTATE stands for the last sample -/

/-- The state code's combination is the sample, or the code is RESYNC and the sample is not 00 (R153). -/
abbrev StandsFor (d : BitVec 4) (p : PinSample) : Prop :=
  (d ≠ RESYNC → combination d = some p) ∧ (d = RESYNC → p ≠ 0b00#2)

theorem process_standsFor (g : Granularity) : ∀ (d : BitVec 4) (p : PinSample), StandsFor (process d g p).1 p := by
  cases g <;> decide

theorem standsFor_dstateAfter (g : Granularity) {d : BitVec 4} {p : PinSample} (h : StandsFor d p)
    (walk : List (PinSample × TickCount)) : StandsFor (dstateAfter g d walk) (pinsAfter p walk) := by
  induction walk generalizing d p with
  | nil => exact h
  | cons x more ih => exact ih (process_standsFor g d x.1)

theorem eq_start_of_standsFor_zero : ∀ d : BitVec 4, StandsFor d 0b00#2 → d = START := by decide

/-! ### Edges between emissions -/

/-- One where exactly one channel changes (the glossary's edge). -/
def edgeCount (p q : PinSample) : Nat :=
  if (channelA p != channelA q) != (channelB p != channelB q) then 1 else 0

theorem edgesIn_cons (p : PinSample) (x : PinSample × TickCount) (more : List (PinSample × TickCount)) :
    edgesIn p (x :: more) = edgeCount p x.1 + edgesIn x.1 more := rfl

/-- The least number of edges of a walk from this state code that ends in an emission (R151). -/
def edgesToEmission (g : Granularity) (d : BitVec 4) : Nat :=
  match g, d.toNat with
  | .full, 1 => 3
  | .full, 2 => 2
  | .full, 3 => 1
  | .full, 4 => 3
  | .full, 5 => 3
  | .full, 6 => 2
  | .full, 7 => 1
  | .full, 8 => 3
  | .full, _ => 4
  | .half, 0 => 2
  | .half, 2 => 2
  | .half, 6 => 2
  | .half, 9 => 2
  | .half, _ => 1

/-- An edge brings an emission nearer by one at most, a jump or a repeated sample not at all, and only the last one emits. -/
theorem edgesToEmission_le (g : Granularity) : ∀ (d : BitVec 4) (p q : PinSample), StandsFor d p →
    edgesToEmission g d ≤ edgeCount p q + edgesToEmission g (process d g q).1 ∧
      ((process d g q).2 ≠ 0b00#2 → edgesToEmission g d ≤ edgeCount p q) := by
  cases g <;> decide

/-- Too few edges for an emission, however many samples and jumps there are among them (R151). -/
theorem unmarked_of_edgesIn_lt (g : Granularity) {d : BitVec 4} {p : PinSample} (h : StandsFor d p)
    {walk : List (PinSample × TickCount)} (hlt : edgesIn p walk < edgesToEmission g d) : Unmarked g d walk := by
  induction walk generalizing d p with
  | nil => exact unmarked_nil g d
  | cons x more ih =>
    obtain ⟨hnext, hmarked⟩ := edgesToEmission_le g d p x.1 h
    rw [edgesIn_cons] at hlt
    refine (unmarked_cons g d x more).mpr ⟨?_, ih (process_standsFor g d x.1) (by omega)⟩
    by_contra hne
    have hle := hmarked hne
    omega

/-- R144 and R151: where a full-step emission comes from and leads. -/
theorem process_full_of_marked : ∀ (d : BitVec 4) (p : PinSample), (process d .full p).2 ≠ 0b00#2 →
    (d = CW3 ∨ d = CCW3) ∧ (process d .full p).1 = START ∧ edgesToEmission .full (process d .full p).1 = 4 := by decide

/-- R146 and R151: where a half-step emission comes from and leads. -/
theorem process_half_of_marked : ∀ (d : BitVec 4) (p : PinSample), (process d .half p).2 ≠ 0b00#2 →
    (((process d .half p).1 = CW2 ∧ d = CW1) ∨ ((process d .half p).1 = CCW2 ∧ d = CCW1) ∨
      ((process d .half p).1 = START ∧ (d = CW3 ∨ d = CWR ∨ d = CCW3 ∨ d = CCWR))) ∧
    edgesToEmission .half (process d .half p).1 = 2 := by decide

/-! ### Net edges -/

/-- +1 for a clockwise edge, -1 for a counter-clockwise one, else 0 (R152). -/
def netEdge (p q : PinSample) : Int :=
  if q = clockwiseNext p then 1 else if p = clockwiseNext q then -1 else 0

/-- +1 for the clockwise code, -1 for the counter-clockwise one, else 0. -/
def netEvent (code : BitVec 2) : Int :=
  if code = 0b01#2 then 1 else if code = 0b10#2 then -1 else 0

theorem netEdges_cons (p : PinSample) (x : PinSample × TickCount) (more : List (PinSample × TickCount)) :
    netEdges p (x :: more) = netEdge p x.1 + netEdges x.1 more := rfl

theorem cleanWalk_cons (p : PinSample) (x : PinSample × TickCount) (more : List (PinSample × TickCount)) :
    cleanWalk p (x :: more) = (noJump p x.1 && cleanWalk x.1 more) := rfl

theorem netEvents_of_codes {codes : List (BitVec 2)} {results : List Result} (h : List.Forall₂ IsStepOf codes results) :
    netEvents results = (codes.map netEvent).sum := by
  induction h with
  | nil => rfl
  | cons hv hrest ih =>
    obtain ⟨-, -, hpos, hneg⟩ := hv
    simp only [netEvents, hpos, hneg, ih, List.map_cons, List.sum_cons, netEvent]

/-- The net edges an event stands for (R152). -/
def edgesPerEvent : Granularity → Int
  | .full => 4
  | .half => 2

/-- The net edges since the last rest point that no event has counted yet. -/
def uncounted (g : Granularity) (d : BitVec 4) : Int :=
  match g, d.toNat with
  | .full, 1 => 1
  | .full, 2 => 2
  | .full, 3 => 3
  | .full, 4 => 1
  | .full, 5 => -1
  | .full, 6 => -2
  | .full, 7 => -3
  | .full, 8 => -1
  | .half, 1 => 1
  | .half, 3 => 1
  | .half, 4 => -1
  | .half, 5 => -1
  | .half, 7 => -1
  | .half, 8 => 1
  | _, _ => 0

/-- Without a jump the decoder follows the pins, and each edge is counted by an event or left uncounted in the state code (R152). -/
theorem process_of_noJump (g : Granularity) : ∀ (d : BitVec 4) (p q : PinSample),
    combination d = some p → noJump p q = true →
      combination (process d g q).1 = some q ∧
      uncounted g d + netEdge p q =
        edgesPerEvent g * netEvent (process d g q).2 + uncounted g (process d g q).1 := by
  cases g <;> decide

theorem netEdges_of_cleanWalk (g : Granularity) {d : BitVec 4} {p : PinSample} (hd : combination d = some p)
    {walk : List (PinSample × TickCount)} (hw : cleanWalk p walk = true) :
    uncounted g d + netEdges p walk =
      edgesPerEvent g * ((codesOf g d walk).map netEvent).sum + uncounted g (dstateAfter g d walk) := by
  induction walk generalizing d p with
  | nil => simp
  | cons x more ih =>
    rw [cleanWalk_cons, Bool.and_eq_true] at hw
    obtain ⟨hd', hcount⟩ := process_of_noJump g d p x.1 hd hw.1
    have hmore := ih hd' hw.2
    rw [netEdges_cons, codesOf_cons, dstateAfter_cons, List.map_cons, List.sum_cons, mul_add]
    omega

/-! ### Turns in full-step -/

/-- Since the last sample 00 the decoder has lost the pins, or `body` has no jump and the state code counts its net edges. -/
def Follows (d : BitVec 4) (body : List (PinSample × TickCount)) : Prop :=
  d = RESYNC ∨ (combination d = some (pinsAfter 0b00#2 body) ∧ cleanWalk 0b00#2 body = true ∧
    netEdges 0b00#2 body = uncounted .full d)

theorem follows_start : Follows START [] := .inr ⟨rfl, rfl, rfl⟩

/-- A jump to other pins than 00 is lost (R147). -/
theorem process_of_jump_ne_zero (g : Granularity) {d : BitVec 4} {p q : PinSample} (hd : combination d = some p)
    (hj : noJump p q = false) (hq : q ≠ 0b00#2) : (process d g q).1 = RESYNC := by
  obtain ⟨hA, hB⟩ : channelA p ≠ channelA q ∧ channelB p ≠ channelB q := by simpa [noJump] using hj
  rw [process_jump g d q p hd hA hB, if_neg hq]

theorem process_full_of_ne_zero : ∀ (d : BitVec 4) (q : PinSample), q ≠ 0b00#2 →
    (process d .full q).2 = 0b00#2 := by decide

theorem process_full_zero_next : ∀ d : BitVec 4, (process d .full 0b00#2).1 = START := by decide

theorem process_resync_of_ne_zero (g : Granularity) {q : PinSample} (hq : q ≠ 0b00#2) :
    process RESYNC g q = (RESYNC, 0b00#2) := by
  rw [process_of_resync_le g _ _ le_rfl, if_neg hq]

/-- A sample other than 00 keeps the decoder in step with the turn, or loses the pins. -/
theorem follows_append {d : BitVec 4} {body : List (PinSample × TickCount)} (h : Follows d body)
    {x : PinSample × TickCount} (hx : x.1 ≠ 0b00#2) : Follows (process d .full x.1).1 (body ++ [x]) := by
  rcases h with rfl | ⟨hd, hclean, hnet⟩
  · exact .inl (congrArg Prod.fst (process_resync_of_ne_zero .full hx))
  · cases hj : noJump (pinsAfter 0b00#2 body) x.1 with
    | false => exact .inl (process_of_jump_ne_zero .full hd hj hx)
    | true =>
      obtain ⟨hd', hcount⟩ := process_of_noJump .full d _ _ hd hj
      rw [process_full_of_ne_zero d x.1 hx] at hcount
      refine .inr ⟨?_, ?_, ?_⟩
      · rw [pinsAfter_append]
        exact hd'
      · rw [cleanWalk_append, hclean, cleanWalk_cons, hj]
        rfl
      · have h0 : netEvent 0b00#2 = 0 := rfl
        rw [netEdges_append, netEdges_cons, netEdges_nil, hnet, add_zero, hcount, h0, mul_zero, zero_add]

/-- A marked sample 00 is the fourth uncounted edge one way (R144). -/
theorem uncounted_of_marked_zero : ∀ d : BitVec 4, (process d .full 0b00#2).2 ≠ 0b00#2 → d ≠ RESYNC ∧
    ∀ p, combination d = some p → noJump p 0b00#2 = true ∧
      (uncounted .full d + netEdge p 0b00#2 = 4 ∨ uncounted .full d + netEdge p 0b00#2 = -4) := by decide

/-- A turn whose last sample is marked has passed the whole sequence: four edges one way without a jump (R150). -/
theorem passesTheSequence_of_marked {d : BitVec 4} {body : List (PinSample × TickCount)} (h : Follows d body)
    (hm : (process d .full 0b00#2).2 ≠ 0b00#2) (tick : TickCount) :
    PassesTheSequence (body ++ [(0b00#2, tick)]) := by
  obtain ⟨hne, hcounts⟩ := uncounted_of_marked_zero d hm
  rcases h with hd | ⟨hd, hclean, hnet⟩
  · exact absurd hd hne
  · obtain ⟨hj, hfour⟩ := hcounts _ hd
    refine ⟨?_, ?_⟩
    · rw [cleanWalk_append, hclean, cleanWalk_cons, hj]
      rfl
    · rw [netEdges_append, netEdges_cons, netEdges_nil, hnet, add_zero]
      exact hfour

/-- In full-step a walk marks an entry only where a turn passes the whole sequence (R150). -/
theorem unmarked_of_neverPasses {d : BitVec 4} {body walk : List (PinSample × TickCount)} (h : Follows d body)
    (hbody : ∀ x ∈ body, x.1 ≠ 0b00#2) (hn : NeverPassesTheSequence (body ++ walk)) : Unmarked .full d walk := by
  induction walk generalizing d body with
  | nil => exact unmarked_nil .full d
  | cons x more ih =>
    rw [unmarked_cons]
    by_cases hx : x.1 = 0b00#2
    · obtain ⟨pins, tick⟩ := x
      obtain rfl : pins = 0b00#2 := hx
      have hturn : IsTurn (body ++ [(0b00#2, tick)]) := ⟨body, tick, rfl, hbody⟩
      have hsplit : body ++ (0b00#2, tick) :: more = body ++ [(0b00#2, tick)] ++ more := by simp
      rw [hsplit] at hn
      constructor
      · by_contra hm
        exact hn [] _ more rfl rfl hturn (passesTheSequence_of_marked h hm tick)
      · rw [process_full_zero_next]
        exact ih follows_start (by simp) (hn.drop (by rw [pinsAfter_append]; rfl))
    · refine ⟨process_full_of_ne_zero d x.1 hx, ih (follows_append h hx) ?_ (by simpa using hn)⟩
      intro y hy
      rcases List.mem_append.mp hy with hy | hy
      · exact hbody y hy
      · rw [List.mem_singleton.mp hy]
        exact hx

/-! ### From START: one edge, or lost until 00 -/

theorem process_start_clockwise (g : Granularity) : process START g 0b01#2 = (CW1, 0b00#2) := by cases g <;> rfl

theorem process_start_counterClockwise (g : Granularity) : process START g 0b10#2 = (CCW1, 0b00#2) := by cases g <;> rfl

theorem process_start_jump (g : Granularity) : process START g 0b11#2 = (RESYNC, 0b00#2) := by cases g <;> rfl

theorem process_start_of_edge {p : PinSample} (hp : p = 0b01#2 ∨ p = 0b10#2) (g : Granularity) :
    ∃ d, process START g p = (d, 0b00#2) ∧ (d = CW1 ∨ d = CCW1) := by
  rcases hp with rfl | rfl
  · exact ⟨_, process_start_clockwise g, .inl rfl⟩
  · exact ⟨_, process_start_counterClockwise g, .inr rfl⟩

theorem unmarked_of_resync (g : Granularity) {walk : List (PinSample × TickCount)} (h : ∀ x ∈ walk, x.1 ≠ 0b00#2) :
    Unmarked g RESYNC walk ∧ dstateAfter g RESYNC walk = RESYNC := by
  induction walk with
  | nil => exact ⟨unmarked_nil _ _, rfl⟩
  | cons x more ih =>
    rw [List.forall_mem_cons] at h
    rw [unmarked_cons, dstateAfter_cons, process_resync_of_ne_zero g h.1]
    exact ⟨⟨rfl, (ih h.2).1⟩, (ih h.2).2⟩

/-! ### The statements -/

/-- Settles O32: each column of the table leads to codes of its own sample, or to RESYNC outside the column of 00. -/
theorem stateAgreesWithTheLastSample : Obligations.StateAgreesWithTheLastSample := by
  intro s pins tick hc hg
  obtain ⟨t, ht, hdstate, -⟩ := exists_exec_sample hc hg pins tick
  refine ⟨t, ht, ?_⟩
  rw [hdstate]
  exact process_standsFor s.gran s.dstate pins

/-- Settles O33: the cycle reads four unmarked entries and then the marked one of its direction. -/
theorem cleanFullStepCyclesStepOnce : Obligations.CleanFullStepCyclesStepOnce := by
  intro s t0 t1 t2 t3 t4 hc hg hgran hd
  have cycle (walk : List (PinSample × TickCount)) (code : BitVec 2)
      (hcodes : codesOf .full START walk = [0b00#2, 0b00#2, 0b00#2, 0b00#2, code])
      (hend : dstateAfter .full START walk = START) :
      ∃ t m, sampleRun s walk = some (t, [0#16, 0#16, 0#16, 0#16, m]) ∧ IsStepOf code m ∧ t.dstate = START := by
    obtain ⟨t, results, hrun, hdstate, hresults, -⟩ := exists_sampleRun hc hg walk
    rw [hgran, hd, hcodes] at hresults
    rw [hgran, hd, hend] at hdstate
    simp only [List.forall₂_cons_left_iff, List.forall₂_nil_left_iff, isStepOf_zero_iff] at hresults
    obtain ⟨_, _, rfl, ⟨_, _, rfl, ⟨_, _, rfl, ⟨_, _, rfl, ⟨m, _, hm, rfl, rfl⟩, rfl⟩, rfl⟩, rfl⟩, rfl⟩ := hresults
    exact ⟨t, m, hrun, hm, hdstate⟩
  obtain ⟨t, m, hrun, ⟨-, -, hpos, -⟩, hend⟩ :=
    cycle [(0b00#2, t0), (0b01#2, t1), (0b11#2, t2), (0b10#2, t3), (0b00#2, t4)] 0b01#2
      (by simp only [codesOf_cons, codesOf_nil]; decide) (by simp only [dstateAfter_cons, dstateAfter_nil]; decide)
  obtain ⟨t', m', hrun', ⟨-, -, -, hneg⟩, hend'⟩ :=
    cycle [(0b00#2, t0), (0b10#2, t1), (0b11#2, t2), (0b01#2, t3), (0b00#2, t4)] 0b10#2
      (by simp only [codesOf_cons, codesOf_nil]; decide) (by simp only [dstateAfter_cons, dstateAfter_nil]; decide)
  exact ⟨⟨t, m, hrun, hpos.mpr rfl, hend⟩, ⟨t', m', hrun', hneg.mpr rfl, hend'⟩⟩

/-- Settles O34: one edge and back reads unmarked entries only, and in full-step so does every walk without a full turn. -/
theorem unfinishedTurnsNeverStep : Obligations.UnfinishedTurnsNeverStep := by
  intro s hc hg hd
  refine ⟨fun p t1 t2 hp => ?_, fun hgran walk hn => ?_⟩
  · obtain ⟨d, hout, hone⟩ := process_start_of_edge hp s.gran
    have hback := process_back_to_start hone s.gran
    have hunmarked : Unmarked s.gran s.dstate [(p, t1), (0b00#2, t2)] := by
      rw [hd, unmarked_cons, hout, unmarked_cons, hback]
      exact ⟨rfl, rfl, unmarked_nil _ _⟩
    obtain ⟨t, hrun, hdstate, hlast, hfirst⟩ := exists_sampleRun_of_unmarked hc hg hunmarked
    rw [hd, dstateAfter_cons, hout, dstateAfter_cons, hback] at hdstate
    exact ⟨t, hrun, hdstate, hlast, hfirst⟩
  · have hunmarked : Unmarked s.gran s.dstate walk := by
      rw [hgran, hd]
      exact unmarked_of_neverPasses follows_start (by simp) hn
    obtain ⟨t, hrun, hdstate, hlast, hfirst⟩ := exists_sampleRun_of_unmarked hc hg hunmarked
    refine ⟨t, hrun, hlast, hfirst, fun hpins => eq_start_of_standsFor_zero _ ?_⟩
    have hstands := standsFor_dstateAfter s.gran (d := START) (p := 0b00#2) (by decide) walk
    rwa [hpins, ← hd, ← hdstate] at hstands

/-- Settles O35: an emission leads to a code from which the next one is four or two edges away. -/
theorem emissionsAreApart : Obligations.EmissionsAreApart := by
  intro s t pins tick hc hg ht hne
  obtain ⟨t', ht', hc', hg', hgran, hdstate, -, ⟨-, hmarked, -⟩, -⟩ := exists_exec_sample_next hc hg pins tick
  cases ht'.symm.trans ht
  have hm := hmarked.mp hne
  have quiet {n : Nat} (hn : edgesToEmission s.gran (process s.dstate s.gran pins).1 = n)
      (walk : List (PinSample × TickCount)) (hlt : edgesIn pins walk < n) :
      ∃ u, sampleRun t walk = some (u, List.replicate walk.length 0#16) := by
    have hunmarked : Unmarked t.gran t.dstate walk := by
      rw [hgran, hdstate]
      exact unmarked_of_edgesIn_lt s.gran (process_standsFor ..) (hn.symm ▸ hlt)
    obtain ⟨u, hrun, -⟩ := exists_sampleRun_of_unmarked hc' hg' hunmarked
    exact ⟨u, hrun⟩
  rw [hdstate]
  constructor
  · intro hfull
    rw [hfull] at hm quiet ⊢
    obtain ⟨hfrom, hto, hfar⟩ := process_full_of_marked _ _ hm
    exact ⟨hfrom, hto, quiet hfar⟩
  · intro hhalf
    rw [hhalf] at hm quiet ⊢
    obtain ⟨hways, hfar⟩ := process_half_of_marked _ _ hm
    exact ⟨hways, quiet hfar⟩

/-- Settles O36: in START no edge is left uncounted. -/
theorem netCountOnCleanWalks : Obligations.NetCountOnCleanWalks := by
  intro s walk hc hg hd hw
  obtain ⟨t, results, hrun, hdstate, hresults, -⟩ := exists_sampleRun hc hg walk
  have hlength := hresults.length_eq
  rw [codesOf_length] at hlength
  refine ⟨t, results, hrun, hlength.symm, fun hend => ?_⟩
  have hcount (g : Granularity) (hgran : s.gran = g) : netEdges 0b00#2 walk = edgesPerEvent g * netEvents results := by
    have hsum := netEdges_of_cleanWalk g (d := START) rfl hw
    have h0 : uncounted g START = 0 := by cases g <;> rfl
    rw [netEvents_of_codes hresults, hgran, hd]
    rw [hgran, hd, hend] at hdstate
    rwa [← hdstate, h0, zero_add, add_zero] at hsum
  exact ⟨hcount .full, hcount .half⟩

/-- Settles O37: START has an entry for each first edge, and a first sample 11 is a jump to RESYNC, which waits for 00. -/
theorem firstSampleIsReadAsAMoveFromRest : Obligations.FirstSampleIsReadAsAMoveFromRest := by
  intro s tick hc hg hd
  have unmarkedTo (pins : PinSample) (n : BitVec 4) (hn : process START s.gran pins = (n, 0b00#2)) :
      ∃ t, exec (.sample pins tick) s = .next t ∧ t.dstate = n ∧ t.stepOut = 0#16 := by
    obtain ⟨t, ht, hunmarked⟩ := exists_exec_sample_unmarked hc hg pins tick
    exact ⟨t, ht, hunmarked n (hd ▸ hn)⟩
  refine ⟨unmarkedTo _ _ (process_start_clockwise _), unmarkedTo _ _ (process_start_counterClockwise _), fun more hmore => ?_⟩
  have hjump := process_start_jump s.gran
  obtain ⟨hrest, hend⟩ := unmarked_of_resync s.gran hmore
  have hunmarked : Unmarked s.gran s.dstate ((0b11#2, tick) :: more) := by
    rw [hd, unmarked_cons, hjump]
    exact ⟨rfl, hrest⟩
  obtain ⟨t, hrun, hdstate, -⟩ := exists_sampleRun_of_unmarked hc hg hunmarked
  rw [hd, dstateAfter_cons, hjump, hend] at hdstate
  exact ⟨t, hrun, hdstate⟩

end Sys2Proof.Machine
end
